-- ==== Sys2Proof/Word.lean ====
section
/-! DEFINITION. The word types of the Palustra DI4: the widths that spec/00_scope.md (units, wrapping numbers) gives. -/

namespace Sys2Proof

/-- One byte of the feed, of a table entry or of the preset memory. -/
abbrev Byte := BitVec 8

/-- A two-byte field: a station code, a mask, a CRC-16, a frame word. -/
abbrev Half := BitVec 16

/-- A site-clock value in µs: 32 bits, wrapping (R113). -/
abbrev Micros := BitVec 32

/-- An air frame number: 16 bits, wrapping (R114). -/
abbrev AirNo := BitVec 16

/-- A feed frame number, 0 to 4095, wrapping (R88). -/
abbrev FeedNo := BitVec 12

/-- A lane, 0 to 3. -/
abbrev LaneNo := Fin 4

/-- A traffic zone, 0 to 15. -/
abbrev Zone := Fin 16

end Sys2Proof
end

