-- ==== Sys2Proof/Syntax.lean ====
section
/-! DEFINITION. The commands of the DI4: one constructor for each row of spec/opcode_table.json, with the operands the spec's rules give
it. A command is one step of the part, whole and indivisible (spec/95_what_each_step_holds.md). -/

namespace Sys2Proof

/-- What the LOAD SOURCE strap selects at start-up (spec/00_scope.md, LINES; R177). -/
inductive LoadSource where
  | preset
  | blank
deriving DecidableEq, Repr

/-- What a reset finds outside the part: the levels of the address straps and of the LOAD SOURCE strap, read at the reset (R176), and how
many bytes of a preset memory write that the reset cuts have reached the memory (R182). -/
structure ResetEnv where
  address : Byte
  source : LoadSource
  written : Nat
deriving DecidableEq, Repr

/-- A feed frame behind its sync pattern: frame word, audio payload, ancillary field and check (R184). -/
structure FeedFrame where
  word : Half
  audio : List Byte
  anc : List Byte
  check : Half
deriving DecidableEq, Repr

/-- Where, within the completion of a feed frame, its outcome is recorded by the feed monitor (R139): the spec leaves it open (08, A FEED
FAILURE AND RETURN), so the command says which of the four it was. -/
inductive OutcomePoint where
  | beforeParse
  | beforeInsertion
  | afterInsertion
  | afterRestart
deriving DecidableEq, Repr

/-- The completion of a feed frame: the instant of its 551st byte, its contents, and the choices the spec leaves open inside the step.
`prompt` says, record by record in the order the step makes them, whether a transition record is taken by its lane within the step
(`true`) or waits for a RECORD_ARRIVES (`false`, and past the list's end). `deadlineFirst` says that a pending restart whose limit is
reached is taken between the parse and the insertion (R138). `reset` is what a restart within the step finds. -/
structure Arrival where
  time : Micros
  frame : FeedFrame
  prompt : List Bool
  outcomeAt : OutcomePoint
  deadlineFirst : Bool
  reset : ResetEnv
deriving DecidableEq, Repr

/-- An ORDER message as the order unit takes it (R146, R184): the instant it is taken, its target site address, its tag and its argument
bytes. The order code is the constructor. -/
structure OrderMsg where
  time : Micros
  target : Byte
  tag : Byte
  args : List Byte
deriving DecidableEq, Repr

/-- The commands of the DI4. A `Micros` operand is the site-clock instant at which an event from outside falls. The steps that the part's
own timing makes carry no instant: it is the one State holds for them. `order` is the order in which the lanes are taken inside a step,
which the spec leaves open. -/
inductive Instr where
  /-- HARD_RESET (R176). -/
  | hardReset (env : ResetEnv)
  /-- RESTART_DEADLINE (R164). -/
  | restartDeadline (env : ResetEnv)
  /-- SYNC_PATTERN_SEEN (R129). -/
  | syncPatternSeen (time : Micros)
  /-- FEED_FRAME_COMPLETE (R131). -/
  | feedFrameComplete (arrival : Arrival)
  /-- FRAME_FORWARD (R132). -/
  | frameForward
  /-- LOST_TIMER_EXPIRY (R141). -/
  | lostTimerExpiry
  /-- RECORD_ARRIVES (R61): the `index`-th record on its way to lane `lane`. -/
  | recordArrives (lane : LaneNo) (index : Nat)
  /-- POLL (R156). -/
  | poll (msg : OrderMsg)
  /-- READ_TABLE (R157). -/
  | readTable (msg : OrderMsg)
  /-- WRITE_TABLE (R158). -/
  | writeTable (msg : OrderMsg)
  /-- PROTECT_TABLES (R166). -/
  | protectTables (msg : OrderMsg)
  /-- UNPROTECT_TABLES (R166). -/
  | unprotectTables (msg : OrderMsg)
  /-- SET_PROTECT_LOCK (R168). -/
  | setProtectLock (msg : OrderMsg)
  /-- CLEAR_PROTECT_LOCK (R169). -/
  | clearProtectLock (msg : OrderMsg)
  /-- FREEZE_LANE (R171). -/
  | freezeLane (msg : OrderMsg)
  /-- LANE_ON (R11). -/
  | laneOn (msg : OrderMsg)
  /-- LANE_OFF (R13). -/
  | laneOff (msg : OrderMsg)
  /-- START_AIR (R117). -/
  | startAir (msg : OrderMsg)
  /-- STOP_AIR (R118). -/
  | stopAir (msg : OrderMsg)
  /-- SAVE_PRESET (R180). -/
  | savePreset (msg : OrderMsg)
  /-- LOAD_PRESET (R181). -/
  | loadPreset (msg : OrderMsg)
  /-- READ_EVENTS (R160). -/
  | readEvents (msg : OrderMsg)
  /-- CLEAR_EVENTS (R161). -/
  | clearEvents (msg : OrderMsg)
  /-- SET_ALERT_MASK (R162). -/
  | setAlertMask (msg : OrderMsg)
  /-- SET_MARKER (R163). -/
  | setMarker (msg : OrderMsg)
  /-- RESTART (R164). -/
  | restart (msg : OrderMsg)
  /-- PRESET_ACCESS_TIMEOUT (R175): `written` bytes of a write that found no response reached the memory. -/
  | presetAccessTimeout (time : Micros) (written : Nat)
  /-- START_UP_TABLE_PLACED (R177). -/
  | startUpTablePlaced (time : Micros)
  /-- FREEZE_RECORD_READ (R172). -/
  | freezeRecordRead (time : Micros)
  /-- START_UP_LOAD_END (R176): `airFirst` says whether the autostart's START AIR is taken before its LANE ON (R178). -/
  | startUpLoadEnd (time : Micros) (airFirst : Bool)
  /-- SAVE_RECORD_WRITTEN (R180). -/
  | saveRecordWritten (time : Micros)
  /-- LOAD_PRESET_STEP_DONE (R181). -/
  | loadPresetStepDone (time : Micros)
  /-- FREEZE_WRITE_COMPLETE (R171): whether the write succeeded, and how many bytes of a failed one reached the memory. -/
  | freezeWriteComplete (time : Micros) (ok : Bool) (written : Nat)
  /-- EARLY_BUILD (R7). -/
  | earlyBuild (order : List LaneNo)
  /-- LINE_START (R9): `fire` says after how many lanes of the order a hold firing of this cycle start is taken (R72); none, and it is left to
  HOLD_FIRES. -/
  | lineStart (fire : Option Nat) (order : List LaneNo)
  /-- CEILING_END (R68). -/
  | ceilingEnd (lane : LaneNo)
  /-- HOLD_FIRES (R71). -/
  | holdFires
  /-- FINAL_FRAME_END (R115). -/
  | finalFrameEnd
  /-- SYNC_PULSE (R120). -/
  | syncPulse (time : Micros)
  /-- SYNC_PULSE_MISSED (R122). -/
  | syncPulseMissed
  /-- SYNC_LOST (R122). -/
  | syncLost
  /-- MASTER_PULSE_START (R119). -/
  | masterPulseStart
  /-- MASTER_PULSE_END (R119). -/
  | masterPulseEnd
  /-- TRIGGER_ARRIVES (R102): the oldest trigger posted to the lane's cue line. -/
  | triggerArrives (lane : LaneNo)
  /-- TRIGGER_DUE (R103). -/
  | triggerDue (lane : LaneNo)
  /-- PHASE_END (R105). -/
  | phaseEnd (lane : LaneNo)
  /-- GUARD_LINE_CHANGE (R167): the new level, active or not. -/
  | guardLineChange (time : Micros) (active : Bool)
deriving DecidableEq, Repr

end Sys2Proof
end

