-- ==== Sys2Proof/Decode.lean ====
section
/-! DEFINITION. The decoding of command words: the rows of spec/opcode_table.json give no bits, so no word spells a command (R184, R185: an order's
bytes stand in a feed frame's ancillary field, and are read in Machine/Feed.lean). -/

namespace Sys2Proof

/-- The command that a word of the opcode table spells: none, for no row of the table gives a command bits. -/
def decodeTableWord (_nbits _w : Nat) : Option Instr := none

end Sys2Proof
end

