-- ==== Sys2Proof/Config.lean ====
section
/-! DEFINITION. The free values of the model: constants with no body, so that no proof can know what they are, for what the spec leaves open;
and the timing constants of the part. -/

namespace Sys2Proof.Config

/-- Which value of a coded field a byte gives that codes none, in an entry of a preset record that passes its check: no rule provides for it
(R177; assumption 8). The arguments are the table number, the byte's place in the entry and the entry's bytes. -/
opaque strayCode : Nat → Nat → List Byte → Nat

/-- The name or neighbour list that a list entry's index above 7 means, which only such a record can hold (assumption 8). -/
opaque strayIndex : Byte → Nat

/-- The zone that a byte above 15 gives: in a freeze record that passes its check, and as the title index above 16 of a list entry that such a
table record holds; no rule provides for it (assumption 8). -/
opaque strayZone : Byte → Zone

/-- A choice among events that fall at one instant, made when the part runs by itself (assumption 3). -/
opaque pick : Nat → Nat

/-- Which of the records on their way to a lane arrives next, when the part runs by itself (assumptions 3 and 12). -/
opaque pickRecord : Nat → Nat

/-- After how many lanes of a line start a hold firing of its cycle start is taken, if within that step at all, when the part runs by itself
(assumptions 3 and 18). -/
opaque fireAfter : Nat → Option Nat

/-- An order of the lanes within a step, made when the part runs by itself (assumption 3). -/
opaque laneOrder : Nat → List LaneNo

/-- What a reset finds outside the part, when the part runs by itself into a restart (assumption 3): how many bytes of a cut write reached
the preset memory. -/
opaque cutBytes : Nat → Nat

/-- An air frame: 80,000 µs (spec/00_scope.md, AIR TIMING). -/
def frameMicros : Nat := 80000

/-- A cycle: eight air frames. -/
def cycleMicros : Nat := 640000

/-- A bit period on a lane line, and of a sync pulse: 625 µs. -/
def bitMicros : Nat := 625

/-- A cue line tick: 5 ms. -/
def tickMicros : Nat := 5000

/-- A feed frame period: 20 ms. -/
def feedFrameMicros : Nat := 20000

/-- The forward delay (R132). -/
def forwardMicros : Nat := 250

/-- The LOST timer (R141). -/
def lostMicros : Nat := 100000

/-- The limit of a pending restart (R164). -/
def restartMicros : Nat := 200000

/-- Half the window of an expected sync pulse (R120). -/
def windowMicros : Nat := 1250

end Sys2Proof.Config
end

