-- ==== Sys2Proof/Machine/Formats.lean ====
section
/-! DEFINITION. Bits and bytes: signed differences of wrapping numbers (spec/00_scope.md), byte order and codes (R183 to R188), the two check
computations (R190, R191) and the words of an air frame (R189). -/

namespace Sys2Proof.Machine

/-! ### Wrapping numbers (spec/00_scope.md, WRAPPING NUMBERS AND SIGNED DIFFERENCES) -/

/-- The signed difference `a − b` of two wrapping numbers. -/
def sdiff {w : Nat} (a b : BitVec w) : Int := (a - b).toInt

/-- "a is before b": the signed difference is negative. -/
def before {w : Nat} (a b : BitVec w) : Bool := decide (sdiff a b < 0)

/-- "a is at or before b": the signed difference is zero or negative. -/
def atOrBefore {w : Nat} (a b : BitVec w) : Bool := decide (sdiff a b ≤ 0)

/-- A count of µs as a site-clock value. -/
def micros (n : Int) : Micros := BitVec.ofInt 32 n

/-- Floor division (spec/00_scope.md, ROUNDING). -/
def floorDiv (a b : Int) : Int := a.fdiv b

/-- Ceiling division (spec/00_scope.md, ROUNDING). -/
def ceilDiv (a b : Int) : Int := -((-a).fdiv b)

/-! ### Bytes (spec/12_formats.md: most significant byte first) -/

/-- The two bytes of a 16-bit field, high byte first. -/
def be16 (h : Half) : List Byte := [h.extractLsb' 8 8, h.extractLsb' 0 8]

/-- A number below 65536 as two bytes, high byte first. -/
def be16Nat (n : Nat) : List Byte := be16 (BitVec.ofNat 16 n)

/-- Byte `i` of a list, 0 past its end. -/
def byteAt (l : List Byte) (i : Nat) : Byte := l.getD i 0

/-- The 16-bit field whose high byte is byte `i`. -/
def halfAt (l : List Byte) (i : Nat) : Half := byteAt l i ++ byteAt l (i + 1)

/-- A byte for a number below 256. -/
def byteOf (n : Nat) : Byte := BitVec.ofNat 8 n

/-- The code of a yes/no field (R183). -/
def yesNoByte (b : Bool) : Byte := if b then 1 else 0

/-- The yes/no field a byte codes (R183); any other value is out of range. -/
def yesNo? (b : Byte) : Option Bool := if b = 0 then some false else if b = 1 then some true else none

/-- A character outside the printable range 0x20 to 0x7E becomes 0x20 (R42, R49). -/
def clampChar (c : Byte) : Byte := if 0x20 ≤ c.toNat ∧ c.toNat ≤ 0x7E then c else 0x20

/-! ### The check of an air frame word (R5, R190) -/

/-- One data bit of the word check. -/
def crc8Bit (r : BitVec 8) (bit : Bool) : BitVec 8 :=
  let shifted := r <<< 1
  if r.getLsbD 7 != bit then shifted ^^^ 0x07 else shifted

/-- The check bits of a word's 24 data bits (R190). -/
def crc8 (w : BitVec 24) : BitVec 8 := (List.range 24).foldl (fun r i => crc8Bit r (w.getLsbD (23 - i))) 0xFF

/-- A word as sent: 24 data bits, then 8 check bits (R1, R5). -/
def airWord (w : BitVec 24) : BitVec 32 := w ++ crc8 w

/-! ### The check of a feed frame and of a preset record (R191) -/

/-- One bit of the CRC-16. -/
def crc16Bit (r : BitVec 16) (bit : Bool) : BitVec 16 :=
  let shifted := r <<< 1
  if r.getLsbD 15 != bit then shifted ^^^ 0x1021 else shifted

/-- One byte of the CRC-16, from bit 7 to bit 0. -/
def crc16Byte (r : BitVec 16) (b : Byte) : BitVec 16 := (List.range 8).foldl (fun r i => crc16Bit r (b.getLsbD (7 - i))) r

/-- The CRC-16 of the covered bytes (R191). -/
def crc16 (l : List Byte) : Half := l.foldl crc16Byte 0xFFFF

/-! ### The air frame's words (R2, R189) -/

/-- The kinds of an air frame (R1). -/
inductive FrameKind where
  | fill
  | head
  | name
  | title
  | neighbour
deriving DecidableEq, Repr

/-- The code of a frame kind (R189). -/
def FrameKind.code : FrameKind → BitVec 4
  | .fill => 0
  | .head => 1
  | .name => 2
  | .title => 3
  | .neighbour => 4

/-- The fields of the header word (R2). -/
structure Header where
  kind : FrameKind
  t : Bool
  b : Bool
  u : Bool
  zone : Zone
  position : BitVec 3
  segment : Nat
  version : BitVec 2
  count : Nat
deriving DecidableEq, Repr

/-- The 24 data bits of the header word (R189). -/
def Header.data (h : Header) : BitVec 24 :=
  h.kind.code ++ BitVec.ofBool h.t ++ BitVec.ofBool h.b ++ BitVec.ofBool h.u ++ BitVec.ofNat 4 h.zone.val ++ h.position ++
    BitVec.ofNat 4 h.segment ++ h.version ++ BitVec.ofNat 4 h.count

/-- The payload of a HEAD frame (R3, R189). -/
def headPayload (station cycle linked reference : Half) (sequence : Byte) : BitVec 72 :=
  station ++ cycle ++ linked ++ reference ++ sequence

/-- Nine characters, the first in bits 71 to 64 (R189). -/
def charPayload (chars : List Byte) : BitVec 72 :=
  (List.range 9).foldl (fun acc i => (acc <<< 8) ||| (byteAt chars i).setWidth 72) 0

/-- Eight 9-bit codes, the first in bits 71 to 63 (R189). -/
def codePayload (codes : List Half) : BitVec 72 :=
  (List.range 8).foldl (fun acc i => (acc <<< 9) ||| ((codes.getD i 0).setWidth 9).setWidth 72) 0

/-- An air frame: its number and the four words it sends, in order (R1). -/
structure AirFrame where
  number : AirNo
  word0 : BitVec 32
  word1 : BitVec 32
  word2 : BitVec 32
  word3 : BitVec 32
deriving DecidableEq, Repr

/-- The frame builder's last step: header and payload cut into words, each with its check (R1, R5, R189). -/
def AirFrame.make (number : AirNo) (h : Header) (payload : BitVec 72) : AirFrame :=
  { number := number
    word0 := airWord h.data
    word1 := airWord (payload.extractLsb' 48 24)
    word2 := airWord (payload.extractLsb' 24 24)
    word3 := airWord (payload.extractLsb' 0 24) }

/-- Bit `i` of a frame in the order it is sent, 0 to 127 (R6). -/
def AirFrame.bit (f : AirFrame) (i : Nat) : Bool := (f.word0 ++ f.word1 ++ f.word2 ++ f.word3).getLsbD (127 - i)

/-! ### The feed frame and its messages (R184) -/

/-- The sync pattern. -/
def syncPattern : List Byte := [0xB4, 0x2E, 0x71]

/-- The kind bytes of the ancillary field's messages. -/
def kindCue : Byte := 0x01
def kindTitle : Byte := 0x02
def kindOrder : Byte := 0x03
def kindAnswer : Byte := 0x04

/-- The frame number N of a frame word (R184). -/
def frameNumber (word : Half) : FeedNo := word.extractLsb' 0 12

/-- The format field of a frame word (R184). -/
def frameFormat (word : Half) : BitVec 4 := word.extractLsb' 12 4

end Sys2Proof.Machine
end

