-- ==== Sys2Proof/Machine/Tables.lean ====
section
/-! DEFINITION. Tables T1 to T9: the fields of their entries, ranges and defaults (R18 to R20, R42 to R46, R100, R154, R155), their bytes
(R187), and the storing of an entry. -/

namespace Sys2Proof.Machine

/-- The free value of a coded field whose byte codes nothing, one of the values of its type: `d` and those of `values` (assumption 8). -/
def strayOf {α : Type} (d : α) (values : List α) (t i : Nat) (l : List Byte) : α :=
  (d :: values).getD (Config.strayCode t i l % (values.length + 1)) d

/-! ### T1 LANE (R154) -/

/-- A LANE entry. Da, Dd, L and Tr are in ms, the ceilings in cycles. -/
structure LaneEntry where
  station : Half
  zone : Zone
  linked : Half
  traffic : Bool
  trafficRef : Half
  da : Nat
  dd : Nat
  lead : Nat
  trail : Nat
  bulletinCeiling : Nat
  urgentCeiling : Nat
  regularLen : Nat
  bulletinLen : Nat
  urgentLen : Nat
  onAtStart : Bool
deriving DecidableEq, Repr

/-- The default LANE entry (R154, R67). -/
def LaneEntry.default : LaneEntry :=
  { station := 0, zone := 0, linked := 0, traffic := false, trafficRef := 0, da := 0, dd := 0, lead := 0, trail := 0,
    bulletinCeiling := 469, urgentCeiling := 188, regularLen := 0, bulletinLen := 0, urgentLen := 0, onAtStart := false }

/-- Every field is within its range (R154). -/
def LaneEntry.inRange (e : LaneEntry) : Bool :=
  decide (e.da ≤ 3000) && decide (e.dd ≤ 500) && decide (e.lead ≤ 2000) && decide (e.trail ≤ 2000) &&
  decide (1 ≤ e.bulletinCeiling) && decide (e.bulletinCeiling ≤ 1023) && decide (1 ≤ e.urgentCeiling) && decide (e.urgentCeiling ≤ 1023) &&
  decide (e.regularLen ≤ 32) && decide (e.bulletinLen ≤ 8) && decide (e.urgentLen ≤ 4)

/-- The 24 bytes of a LANE entry (R187). -/
def LaneEntry.bytes (e : LaneEntry) : List Byte :=
  be16 e.station ++ [byteOf e.zone.val] ++ be16 e.linked ++ [yesNoByte e.traffic] ++ be16 e.trafficRef ++
    be16Nat e.da ++ be16Nat e.dd ++ be16Nat e.lead ++ be16Nat e.trail ++ be16Nat e.bulletinCeiling ++ be16Nat e.urgentCeiling ++
    [byteOf e.regularLen, byteOf e.bulletinLen, byteOf e.urgentLen, yesNoByte e.onAtStart]

/-- The zone a byte codes. -/
def zone? (b : Byte) : Option Zone := if h : b.toNat < 16 then some ⟨b.toNat, h⟩ else none

/-- The LANE entry that 24 bytes code, whatever their values (R177); a coded field whose byte codes nothing is free. -/
def LaneEntry.load (l : List Byte) : LaneEntry :=
  { station := halfAt l 0, zone := (zone? (byteAt l 2)).getD (Config.strayZone (byteAt l 2)), linked := halfAt l 3,
    traffic := (yesNo? (byteAt l 5)).getD (strayOf false [true] 1 5 l), trafficRef := halfAt l 6,
    da := (halfAt l 8).toNat, dd := (halfAt l 10).toNat, lead := (halfAt l 12).toNat, trail := (halfAt l 14).toNat,
    bulletinCeiling := (halfAt l 16).toNat, urgentCeiling := (halfAt l 18).toNat,
    regularLen := (byteAt l 20).toNat, bulletinLen := (byteAt l 21).toNat, urgentLen := (byteAt l 22).toNat,
    onAtStart := (yesNo? (byteAt l 23)).getD (strayOf false [true] 1 23 l) }

/-- The LANE entry that 24 bytes code, if every field is within its range. -/
def LaneEntry.parse (l : List Byte) : Option LaneEntry :=
  if l.length = 24 ∧ (zone? (byteAt l 2)).isSome ∧ (yesNo? (byteAt l 5)).isSome ∧ (yesNo? (byteAt l 23)).isSome ∧
    (LaneEntry.load l).inRange then some (LaneEntry.load l) else none

/-! ### T2, T3, T4: the lists (R18, R19) -/

/-- The item kinds of a list entry (R19). -/
inductive ItemKind where
  | fill
  | name
  | title
  | neighbour
deriving DecidableEq, Repr

/-- The code of an item kind (R187). -/
def ItemKind.code : ItemKind → Byte
  | .fill => 0
  | .name => 2
  | .title => 3
  | .neighbour => 4

/-- The item kind a byte codes. -/
def ItemKind.ofCode? (b : Byte) : Option ItemKind :=
  if b = 0 then some .fill else if b = 2 then some .name else if b = 3 then some .title else if b = 4 then some .neighbour else none

/-- A list entry (R19). The index of a FILL entry is ignored and kept as written (R187). -/
structure ListEntry where
  enabled : Bool
  kind : ItemKind
  index : Byte
  burst : Nat
deriving DecidableEq, Repr

/-- The default list entry (R20). -/
def ListEntry.default : ListEntry := { enabled := false, kind := .fill, index := 0, burst := 1 }

/-- Index and burst are within their ranges (R19). -/
def ListEntry.inRange (e : ListEntry) : Bool :=
  (match e.kind with
    | .fill => true
    | .name => decide (e.index.toNat ≤ 7)
    | .title => decide (e.index.toNat ≤ 16)
    | .neighbour => decide (e.index.toNat ≤ 7)) && decide (1 ≤ e.burst) && decide (e.burst ≤ 6)

/-- The 4 bytes of a list entry (R187). -/
def ListEntry.bytes (e : ListEntry) : List Byte := [yesNoByte e.enabled, e.kind.code, e.index, byteOf e.burst]

/-- The entry of list table `t` that 4 bytes code, whatever their values (R177). -/
def ListEntry.load (t : Nat) (l : List Byte) : ListEntry :=
  { enabled := (yesNo? (byteAt l 0)).getD (strayOf false [true] t 0 l)
    kind := (ItemKind.ofCode? (byteAt l 1)).getD (strayOf .fill [.name, .title, .neighbour] t 1 l)
    index := byteAt l 2, burst := (byteAt l 3).toNat }

/-- The list entry that 4 bytes code, if every field is within its range. -/
def ListEntry.parse (l : List Byte) : Option ListEntry :=
  if l.length = 4 ∧ (yesNo? (byteAt l 0)).isSome ∧ (ItemKind.ofCode? (byteAt l 1)).isSome ∧ (ListEntry.load 2 l).inRange then
    some (ListEntry.load 2 l)
  else none

/-! ### T5 NAME (R42, R43) -/

/-- A name: 18 characters. -/
structure NameEntry where
  chars : List Byte
deriving DecidableEq, Repr

/-- The default name: 18 characters of 0x20, unset (R45). -/
def NameEntry.default : NameEntry := { chars := List.replicate 18 0x20 }

/-- A name is 18 printable characters. -/
def NameEntry.inRange (e : NameEntry) : Bool := decide (e.chars.length = 18) && e.chars.all (fun c => clampChar c == c)

/-- The 18 bytes of a name (R187). -/
def NameEntry.bytes (e : NameEntry) : List Byte := e.chars

/-- The name that 18 bytes give: any code outside the printable range is stored as 0x20, and none is a cause of refusal (R42). -/
def NameEntry.parse (l : List Byte) : Option NameEntry :=
  if l.length = 18 then some { chars := l.map clampChar } else none

/-- A name is set when a character is other than 0x20 (R43). -/
def NameEntry.isSet (e : NameEntry) : Bool := e.chars.any (fun c => c != 0x20)

/-! ### T6 NEIGHBOUR (R44) -/

/-- A neighbour list: a count and 24 code places. -/
structure NeighbourEntry where
  count : Nat
  codes : List Half
deriving DecidableEq, Repr

/-- The default neighbour list (R45). -/
def NeighbourEntry.default : NeighbourEntry := { count := 0, codes := List.replicate 24 0 }

/-- A frequency code is 1 to 411 (R44). -/
def freqCode (c : Half) : Bool := decide (1 ≤ c.toNat) && decide (c.toNat ≤ 411)

/-- Count and codes are within their ranges, with 0 in every place at or beyond the count (R44). -/
def NeighbourEntry.inRange (e : NeighbourEntry) : Bool :=
  decide (e.count ≤ 24) && decide (e.codes.length = 24) && (e.codes.take e.count).all freqCode && (e.codes.drop e.count).all (fun c => c == 0)

/-- The neighbour list that 49 bytes code, whatever their values (R177). -/
def NeighbourEntry.load (l : List Byte) : NeighbourEntry :=
  { count := (byteAt l 0).toNat, codes := (List.range 24).map (fun i => halfAt l (1 + 2 * i)) }

/-- The 49 bytes of a neighbour list (R187). -/
def NeighbourEntry.bytes (e : NeighbourEntry) : List Byte := byteOf e.count :: e.codes.flatMap be16

/-- The neighbour list that 49 bytes give: a place at or beyond the count is stored as 0 whatever it holds (R44). -/
def NeighbourEntry.parse (l : List Byte) : Option NeighbourEntry :=
  if l.length = 49 then
    let e := NeighbourEntry.load l
    if decide (e.count ≤ 24) && (e.codes.take e.count).all freqCode then
      some { e with codes := e.codes.take e.count ++ List.replicate (24 - e.count) 0 }
    else none
  else none

/-! ### T7 CUE LINE (R100) -/

/-- How triggers drive a cue line. -/
inductive CueMode where
  | off
  | level
  | pulse
  | repeating
deriving DecidableEq, Repr

/-- Which edges start a train in PULSE and REPEAT. -/
inductive TriggerEdge where
  | start
  | finish
  | both
deriving DecidableEq, Repr

/-- The override of the line level. -/
inductive Force where
  | normal
  | active
  | inactive
deriving DecidableEq, Repr

/-- The code of a mode (R187). -/
def CueMode.code : CueMode → Byte
  | .off => 0
  | .level => 1
  | .pulse => 2
  | .repeating => 3

/-- The mode a byte codes. -/
def CueMode.ofCode? (b : Byte) : Option CueMode :=
  if b = 0 then some .off else if b = 1 then some .level else if b = 2 then some .pulse else if b = 3 then some .repeating else none

/-- The code of a trigger edge (R187). -/
def TriggerEdge.code : TriggerEdge → Byte
  | .start => 0
  | .finish => 1
  | .both => 2

/-- The trigger edge a byte codes. -/
def TriggerEdge.ofCode? (b : Byte) : Option TriggerEdge :=
  if b = 0 then some .start else if b = 1 then some .finish else if b = 2 then some .both else none

/-- The code of a force setting (R187). -/
def Force.code : Force → Byte
  | .normal => 0
  | .active => 1
  | .inactive => 2

/-- The force setting a byte codes. -/
def Force.ofCode? (b : Byte) : Option Force :=
  if b = 0 then some .normal else if b = 1 then some .active else if b = 2 then some .inactive else none

/-- A CUE LINE entry. `urgentOnly` is edge source URGENT_ONLY, `fromAudio` reference AUDIO, `truncate` completion TRUNCATE and
`activeLow` polarity ACTIVE_LOW. Delay and widths are in ticks. -/
structure CueEntry where
  mode : CueMode
  urgentOnly : Bool
  edge : TriggerEdge
  fromAudio : Bool
  delay : Nat
  high : Nat
  low : Nat
  pulses : Nat
  truncate : Bool
  activeLow : Bool
  force : Force
deriving DecidableEq, Repr

/-- The default CUE LINE entry (R100). -/
def CueEntry.default : CueEntry :=
  { mode := .off, urgentOnly := false, edge := .start, fromAudio := false, delay := 0, high := 20, low := 20, pulses := 1,
    truncate := false, activeLow := false, force := .normal }

/-- Delay, widths and count are within their ranges (R100). -/
def CueEntry.inRange (e : CueEntry) : Bool :=
  decide (e.delay ≤ 4095) && decide (1 ≤ e.high) && decide (e.high ≤ 4095) && decide (1 ≤ e.low) && decide (e.low ≤ 4095) &&
  decide (1 ≤ e.pulses) && decide (e.pulses ≤ 15)

/-- The 14 bytes of a CUE LINE entry (R187). -/
def CueEntry.bytes (e : CueEntry) : List Byte :=
  [e.mode.code, yesNoByte e.urgentOnly, e.edge.code, yesNoByte e.fromAudio] ++ be16Nat e.delay ++ be16Nat e.high ++ be16Nat e.low ++
    [byteOf e.pulses, yesNoByte e.truncate, yesNoByte e.activeLow, e.force.code]

/-- The CUE LINE entry that 14 bytes code, whatever their values (R177). -/
def CueEntry.load (l : List Byte) : CueEntry :=
  { mode := (CueMode.ofCode? (byteAt l 0)).getD (strayOf .off [.level, .pulse, .repeating] 7 0 l)
    urgentOnly := (yesNo? (byteAt l 1)).getD (strayOf false [true] 7 1 l)
    edge := (TriggerEdge.ofCode? (byteAt l 2)).getD (strayOf .start [.finish, .both] 7 2 l)
    fromAudio := (yesNo? (byteAt l 3)).getD (strayOf false [true] 7 3 l)
    delay := (halfAt l 4).toNat, high := (halfAt l 6).toNat, low := (halfAt l 8).toNat, pulses := (byteAt l 10).toNat
    truncate := (yesNo? (byteAt l 11)).getD (strayOf false [true] 7 11 l)
    activeLow := (yesNo? (byteAt l 12)).getD (strayOf false [true] 7 12 l)
    force := (Force.ofCode? (byteAt l 13)).getD (strayOf .normal [.active, .inactive] 7 13 l) }

/-- The CUE LINE entry that 14 bytes code, if every field is within its range. -/
def CueEntry.parse (l : List Byte) : Option CueEntry :=
  if l.length = 14 ∧ (CueMode.ofCode? (byteAt l 0)).isSome ∧ (yesNo? (byteAt l 1)).isSome ∧ (TriggerEdge.ofCode? (byteAt l 2)).isSome ∧
    (yesNo? (byteAt l 3)).isSome ∧ (yesNo? (byteAt l 11)).isSome ∧ (yesNo? (byteAt l 12)).isSome ∧ (Force.ofCode? (byteAt l 13)).isSome ∧
    (CueEntry.load l).inRange then some (CueEntry.load l) else none

/-! ### T8 SITE (R126, R155) -/

/-- The role of the timebase. -/
inductive Role where
  | alone
  | master
  | follower
deriving DecidableEq, Repr

/-- The code of a role (R187). -/
def Role.code : Role → Byte
  | .alone => 0
  | .master => 1
  | .follower => 2

/-- The role a byte codes. -/
def Role.ofCode? (b : Byte) : Option Role :=
  if b = 0 then some .alone else if b = 1 then some .master else if b = 2 then some .follower else none

/-- The SITE entry. The divisor is in cycles, the offsets in bit periods, the hold limit in cycles. -/
structure SiteEntry where
  role : Role
  divisor : Nat
  outOffset : Nat
  inOffset : Nat
  autostart : Bool
  highThreshold : Nat
  lowThreshold : Nat
  holdoverOnDegraded : Bool
  holdLimit : Nat
deriving DecidableEq, Repr

/-- The default SITE entry (R155). -/
def SiteEntry.default : SiteEntry :=
  { role := .alone, divisor := 1, outOffset := 0, inOffset := 0, autostart := false, highThreshold := 10, lowThreshold := 2,
    holdoverOnDegraded := false, holdLimit := 16 }

/-- Every field is within its range, and the low threshold is below the high (R155, R142). -/
def SiteEntry.inRange (e : SiteEntry) : Bool :=
  decide (1 ≤ e.divisor) && decide (e.divisor ≤ 128) && decide (e.outOffset ≤ 1023) && decide (e.inOffset ≤ 1023) &&
  decide (1 ≤ e.highThreshold) && decide (e.highThreshold ≤ 50) && decide (e.lowThreshold ≤ 49) &&
  decide (e.lowThreshold < e.highThreshold) && decide (e.holdLimit ≤ 255)

/-- The 11 bytes of the SITE entry (R187). -/
def SiteEntry.bytes (e : SiteEntry) : List Byte :=
  [e.role.code, byteOf e.divisor] ++ be16Nat e.outOffset ++ be16Nat e.inOffset ++
    [yesNoByte e.autostart, byteOf e.highThreshold, byteOf e.lowThreshold, yesNoByte e.holdoverOnDegraded, byteOf e.holdLimit]

/-- The SITE entry that 11 bytes code, whatever their values (R177). -/
def SiteEntry.load (l : List Byte) : SiteEntry :=
  { role := (Role.ofCode? (byteAt l 0)).getD (strayOf .alone [.master, .follower] 8 0 l)
    divisor := (byteAt l 1).toNat, outOffset := (halfAt l 2).toNat, inOffset := (halfAt l 4).toNat
    autostart := (yesNo? (byteAt l 6)).getD (strayOf false [true] 8 6 l)
    highThreshold := (byteAt l 7).toNat, lowThreshold := (byteAt l 8).toNat
    holdoverOnDegraded := (yesNo? (byteAt l 9)).getD (strayOf false [true] 8 9 l)
    holdLimit := (byteAt l 10).toNat }

/-- The SITE entry that 11 bytes code, if every field is within its range. -/
def SiteEntry.parse (l : List Byte) : Option SiteEntry :=
  if l.length = 11 ∧ (Role.ofCode? (byteAt l 0)).isSome ∧ (yesNo? (byteAt l 6)).isSome ∧ (yesNo? (byteAt l 9)).isSome ∧
    (SiteEntry.load l).inRange then some (SiteEntry.load l) else none

/-- The four sync fields agree (R126). -/
def SiteEntry.sameSync (a b : SiteEntry) : Bool :=
  (a.role == b.role) && (a.divisor == b.divisor) && (a.outOffset == b.outOffset) && (a.inOffset == b.inOffset)

/-! ### T9 TITLE (R46) -/

/-- A title record: 45 places, of which the first `length` hold the title. -/
structure TitleRecord where
  length : Nat
  text : List Byte
  version : BitVec 2
deriving DecidableEq, Repr

/-- A title record after any reset (R47). -/
def TitleRecord.empty : TitleRecord := { length := 0, text := List.replicate 45 0x20, version := 0 }

/-- The 47 bytes of a title record (R187). -/
def TitleRecord.bytes (r : TitleRecord) : List Byte := [byteOf r.length, r.version.setWidth 8] ++ r.text

/-- A title record is well formed: length 0 to 45, 45 printable places, 0x20 beyond the length (R46). -/
def TitleRecord.inRange (r : TitleRecord) : Bool :=
  decide (r.length ≤ 45) && decide (r.text.length = 45) && r.text.all (fun c => clampChar c == c) &&
    (r.text.drop r.length).all (fun c => c == 0x20)

/-! ### The tables T1 to T8 -/

/-- Tables T1 to T8. -/
structure Tables where
  lane : Vector LaneEntry 4
  regular : Vector ListEntry 128
  bulletin : Vector ListEntry 32
  urgent : Vector ListEntry 16
  names : Vector NameEntry 8
  neighbours : Vector NeighbourEntry 8
  cueLines : Vector CueEntry 4
  site : SiteEntry
deriving DecidableEq, Repr

/-- Every table at its defaults (R20, R45, R100, R154, R155). -/
def Tables.default : Tables :=
  { lane := Vector.replicate 4 LaneEntry.default
    regular := Vector.replicate 128 ListEntry.default
    bulletin := Vector.replicate 32 ListEntry.default
    urgent := Vector.replicate 16 ListEntry.default
    names := Vector.replicate 8 NameEntry.default
    neighbours := Vector.replicate 8 NeighbourEntry.default
    cueLines := Vector.replicate 4 CueEntry.default
    site := SiteEntry.default }

/-- Every entry is within the ranges of its table. -/
def Tables.inRange (T : Tables) : Bool :=
  T.lane.toList.all LaneEntry.inRange && T.regular.toList.all ListEntry.inRange && T.bulletin.toList.all ListEntry.inRange &&
    T.urgent.toList.all ListEntry.inRange && T.names.toList.all NameEntry.inRange && T.neighbours.toList.all NeighbourEntry.inRange &&
    T.cueLines.toList.all CueEntry.inRange && T.site.inRange

/-- How many entries table number `t` has (R154 to R158; spec/00_scope.md, TABLES). -/
def entryCount (t : Nat) : Nat :=
  match t with
  | 1 => 4 | 2 => 128 | 3 => 32 | 4 => 16 | 5 => 8 | 6 => 8 | 7 => 4 | 8 => 1 | 9 => 16 | _ => 0

/-- How many bytes an entry of table number `t` has (R187). -/
def entrySize (t : Nat) : Nat :=
  match t with
  | 1 => 24 | 2 => 4 | 3 => 4 | 4 => 4 | 5 => 18 | 6 => 49 | 7 => 14 | 8 => 11 | 9 => 47 | _ => 0

/-- The bytes are an entry of table `t` with every field in range (R158). -/
def entryOk (t : Nat) (l : List Byte) : Bool :=
  match t with
  | 1 => (LaneEntry.parse l).isSome
  | 2 => (ListEntry.parse l).isSome
  | 3 => (ListEntry.parse l).isSome
  | 4 => (ListEntry.parse l).isSome
  | 5 => (NameEntry.parse l).isSome
  | 6 => (NeighbourEntry.parse l).isSome
  | 7 => (CueEntry.parse l).isSome
  | 8 => (SiteEntry.parse l).isSome
  | _ => false

/-- Store one entry of table `t` at index `i` from its bytes, as its table's rules say (R42, R44, R159). Bytes that are no entry in range
store nothing; no rule stores such bytes. -/
def Tables.store (T : Tables) (t i : Nat) (l : List Byte) : Tables :=
  match t with
  | 1 => match LaneEntry.parse l with
    | some e => { T with lane := T.lane.setIfInBounds i e }
    | none => T
  | 2 => match ListEntry.parse l with
    | some e => { T with regular := T.regular.setIfInBounds i e }
    | none => T
  | 3 => match ListEntry.parse l with
    | some e => { T with bulletin := T.bulletin.setIfInBounds i e }
    | none => T
  | 4 => match ListEntry.parse l with
    | some e => { T with urgent := T.urgent.setIfInBounds i e }
    | none => T
  | 5 => match NameEntry.parse l with
    | some e => { T with names := T.names.setIfInBounds i e }
    | none => T
  | 6 => match NeighbourEntry.parse l with
    | some e => { T with neighbours := T.neighbours.setIfInBounds i e }
    | none => T
  | 7 => match CueEntry.parse l with
    | some e => { T with cueLines := T.cueLines.setIfInBounds i e }
    | none => T
  | 8 => match SiteEntry.parse l with
    | some e => if i = 0 then { T with site := e } else T
    | none => T
  | _ => T

/-- Store consecutive entries of table `t`, the first at index `first` (R159). -/
def Tables.storeAll (T : Tables) (t first : Nat) (entries : List (List Byte)) : Tables :=
  match entries with
  | [] => T
  | e :: rest => (T.store t first e).storeAll t (first + 1) rest

/-- The bytes of entry `i` of table `t`, as read and recorded (R157, R187); T9 is the title store. -/
def Tables.entryBytes (T : Tables) (titles : Vector TitleRecord 16) (t i : Nat) : List Byte :=
  match t with
  | 1 => (T.lane[i]?.map LaneEntry.bytes).getD []
  | 2 => (T.regular[i]?.map ListEntry.bytes).getD []
  | 3 => (T.bulletin[i]?.map ListEntry.bytes).getD []
  | 4 => (T.urgent[i]?.map ListEntry.bytes).getD []
  | 5 => (T.names[i]?.map NameEntry.bytes).getD []
  | 6 => (T.neighbours[i]?.map NeighbourEntry.bytes).getD []
  | 7 => (T.cueLines[i]?.map CueEntry.bytes).getD []
  | 8 => if i = 0 then T.site.bytes else []
  | 9 => (titles[i]?.map TitleRecord.bytes).getD []
  | _ => []

/-- Table number `t` of `src` in place of the one of `T`. -/
def Tables.copyTable (T src : Tables) (t : Nat) : Tables :=
  match t with
  | 1 => { T with lane := src.lane }
  | 2 => { T with regular := src.regular }
  | 3 => { T with bulletin := src.bulletin }
  | 4 => { T with urgent := src.urgent }
  | 5 => { T with names := src.names }
  | 6 => { T with neighbours := src.neighbours }
  | 7 => { T with cueLines := src.cueLines }
  | 8 => { T with site := src.site }
  | _ => T

/-- A run of bytes cut into `count` entries of `size` bytes. -/
def cutEntries (size count : Nat) (l : List Byte) : List (List Byte) := (List.range count).map (fun j => (l.drop (j * size)).take size)

/-- The entries of a table that a record's bytes hold, one for each of its `count` places, each as `load` reads its `size` bytes. -/
def loadEntries {α : Type} (count size : Nat) (load : List Byte → α) (l : List Byte) : Vector α count :=
  Vector.ofFn (fun i : Fin count => load ((l.drop (i.val * size)).take size))

/-- Table number `t` as the bytes behind a good record's number hold it: the load takes that record, and performs no range check (R177). -/
def Tables.loadTable (T : Tables) (t : Nat) (l : List Byte) : Tables :=
  match t with
  | 1 => { T with lane := loadEntries 4 24 LaneEntry.load l }
  | 2 => { T with regular := loadEntries 128 4 (ListEntry.load 2) l }
  | 3 => { T with bulletin := loadEntries 32 4 (ListEntry.load 3) l }
  | 4 => { T with urgent := loadEntries 16 4 (ListEntry.load 4) l }
  | 5 => { T with names := loadEntries 8 18 NameEntry.mk l }
  | 6 => { T with neighbours := loadEntries 8 49 NeighbourEntry.load l }
  | 7 => { T with cueLines := loadEntries 4 14 CueEntry.load l }
  | 8 => { T with site := SiteEntry.load (l.take 11) }
  | _ => T

end Sys2Proof.Machine
end

