-- ==== Sys2Proof/Machine/State.lean ====
section
/-! DEFINITION. The state of the DI4: every piece of state the spec gives the part, block by block, as plain data, and the state right after a
hard reset (spec/00_scope.md, RESETS; R17, R40, R47, R78, R81, R101, R127, R138, R144, R149, R152, R153, R163, R164, R167, R170, R176). -/

namespace Sys2Proof.Machine

/-! ### Lanes: scheduler, bulletin unit, frame builder (R10 to R41, R57 to R78) -/

/-- An item (R19): what a visit sends, with a title's index resolved to its zone. -/
inductive Item where
  | name (i : Fin 8)
  | title (z : Zone)
  | neighbour (j : Fin 8)
  | fill
deriving DecidableEq, Repr

/-- A list cursor (R22). -/
structure Cursor where
  entry : Nat
  visit : Option Item
  progress : Nat
deriving DecidableEq, Repr

/-- A new cursor: entry 0, no visit, progress 0 (R22). -/
def Cursor.start : Cursor := { entry := 0, visit := none, progress := 0 }

/-- The level kinds, lowest first (R57). -/
inductive LevelKind where
  | regular
  | bulletin
  | urgent
deriving DecidableEq, Repr

/-- What only a BULLETIN or URGENT level has: its entry frame and its ceiling in cycles (R57). -/
structure Life where
  entryFrame : AirNo
  ceiling : Nat
deriving DecidableEq, Repr

/-- A level record (R57). `life` is none for REGULAR. -/
structure Level where
  kind : LevelKind
  cursor : Cursor
  life : Option Life
deriving DecidableEq, Repr

/-- The REGULAR level a join sets (R12). -/
def Level.regular : Level := { kind := .regular, cursor := Cursor.start, life := none }

/-- The four transition kinds (R59, R79). -/
inductive TransKind where
  | bulletinStart
  | bulletinEnd
  | urgentStart
  | urgentEnd
deriving DecidableEq, Repr

/-- A transition record (R59). -/
structure Transition where
  kind : TransKind
  target : AirNo
  audio : Micros
  late : Bool
deriving DecidableEq, Repr

/-- The flag edges (R75). -/
inductive Edge where
  | bUp
  | bDown
  | uUp
  | uDown
deriving DecidableEq, Repr

/-- A trigger as the bulletin unit posts it (R75). -/
structure Trigger where
  edge : Edge
  line : Micros
  audio : Option Micros
deriving DecidableEq, Repr

/-- A trigger waiting in a cue line's queue: only its edge and its due time are kept (R102). -/
structure Queued where
  edge : Edge
  due : Micros
deriving DecidableEq, Repr

/-- The train states (R101). -/
inductive Train where
  | idle
  | high
  | low
deriving DecidableEq, Repr

/-- The state of a cue line unit (R101). `widths` holds the high and low width in ticks once a train has started. -/
structure CueLine where
  queue : List Queued
  train : Train
  phaseEnd : Option Micros
  remaining : Nat
  widths : Option (Nat × Nat)
  followed : Bool
  closing : Bool
deriving DecidableEq, Repr

/-- A cue line unit after a reset and after its lane is cleared (R101, R111). -/
def CueLine.cleared : CueLine :=
  { queue := [], train := .idle, phaseEnd := none, remaining := 0, widths := none, followed := false, closing := false }

/-- The lane states (01_air_frames_and_lanes.md, LANE STATES). -/
inductive LaneMode where
  | off
  | waiting
  | onAir
deriving DecidableEq, Repr

/-- The stop request of an ON_AIR lane (R13, R14). -/
inductive StopRequest where
  | none
  | toWaiting
  | toOff
deriving DecidableEq, Repr

/-- The 32 item segment cursors of a lane (R23). -/
structure SegCursors where
  names : Vector Nat 8
  titles : Vector Nat 16
  neighbours : Vector Nat 8
deriving DecidableEq, Repr

/-- All item segment cursors at 0. -/
def SegCursors.zero : SegCursors :=
  { names := Vector.replicate 8 0, titles := Vector.replicate 16 0, neighbours := Vector.replicate 8 0 }

/-- A lane: its line, its bulletin unit, its scheduler context and its cue line.
`inBuild` is the frame in build of an ON_AIR lane and the join frame of a WAITING one (R12). `stack` is bottom first. `serving` is the
insertion service: idle, or the count of frames sent (R33). `records` and `triggers` are on their way to the bulletin unit and to the cue
line, oldest first (R61, R102). `lastBuilt` is the number of the lane's last built frame (R61). -/
structure Lane where
  mode : LaneMode
  stop : StopRequest
  onLine : Option AirFrame
  inBuild : Option AirFrame
  lastBuilt : AirNo
  stack : List Level
  schedule : List Transition
  sequence : Byte
  prevB : Bool
  prevU : Bool
  holdPending : Bool
  segs : SegCursors
  queue : List Zone
  serving : Option Nat
  records : List Transition
  triggers : List Trigger
  cue : CueLine
deriving DecidableEq, Repr

/-- A lane after a hard reset and after a restart (R17, R40, R78). -/
def Lane.reset : Lane :=
  { mode := .off, stop := .none, onLine := none, inBuild := none, lastBuilt := 0, stack := [], schedule := [], sequence := 0,
    prevB := false, prevU := false, holdPending := false, segs := SegCursors.zero, queue := [], serving := none, records := [],
    triggers := [], cue := CueLine.cleared }

/-! ### Timebase and SYNC line (R113 to R127) -/

/-- The timebase states. -/
inductive TbMode where
  | stopped
  | awaitSync
  | priming
  | running
  | holdover
deriving DecidableEq, Repr

/-- The timebase's three counts (R114): those of the next frame to be given a build instant. -/
structure Counts where
  number : AirNo
  position : BitVec 3
  cycle : Half
deriving DecidableEq, Repr

/-- A frame as the timebase gives it to the lanes (R115): its number, its position, its line start, and the cycle count its build took. -/
structure LineFrame where
  number : AirNo
  position : BitVec 3
  start : Micros
  cycle : Half
deriving DecidableEq, Repr

/-- The frame reference (R116). -/
structure FrameRef where
  number : AirNo
  start : Micros
deriving DecidableEq, Repr

/-- The timebase. `onLine` is the frame whose line start was the last, while it is on the line; `lastOfGrid` says that no line start follows
its end (R115). `built` is the frame whose build instant has been produced and whose line start is to come. `earlyFor` is the line start
of an early build still to be produced (R121, R124). `expected` is the next expected pulse and `met` that a pulse was received in its
window (R120). -/
structure Timebase where
  mode : TbMode
  stopPending : Bool
  counts : Option Counts
  reference : Option FrameRef
  onLine : Option LineFrame
  lastOfGrid : Bool
  built : Option LineFrame
  earlyFor : Option Micros
  expected : Option Micros
  met : Bool
  misses : Nat
  divisorCount : Nat
deriving DecidableEq, Repr

/-- The timebase after a hard reset and after a restart (R127). -/
def Timebase.reset : Timebase :=
  { mode := .stopped, stopPending := false, counts := none, reference := none, onLine := none, lastOfGrid := false, built := none,
    earlyFor := none, expected := none, met := false, misses := 0, divisorCount := 0 }

/-- The SYNC line as a MASTER drives it (R119): the start of a scheduled pulse, and the end of the pulse being driven. -/
structure SyncLine where
  pulseAt : Option Micros
  lowUntil : Option Micros
deriving DecidableEq, Repr

/-! ### Feed port and feed monitor (R129 to R144) -/

/-- A complete frame on its way to FEED OUT and AUDIO OUT: when it begins there, the time that its 548 bytes behind the sync pattern took on FEED
IN, which gives the byte rate at which it is sent, and those bytes (R132). -/
structure Forward where
  start : Micros
  span : Nat
  frame : FeedFrame
deriving DecidableEq, Repr

/-- The feed port. `inProgress` is the sync time of the frame in progress; `forwards` the complete frames not yet begun on FEED OUT, oldest
first; `sending` the frame on FEED OUT and AUDIO OUT, none between frames (R132). -/
structure FeedPort where
  inProgress : Option Micros
  forwards : List Forward
  sending : Option Forward
deriving DecidableEq, Repr

/-- The states of the feed monitor. -/
inductive FeedState where
  | absent
  | good
  | degraded
  | lost
deriving DecidableEq, Repr

/-- The feed monitor (R139 to R141). The window holds outcomes oldest first, `true` for a bad one; `lostAt` is the instant the LOST timer
expires, none after an expiry until a pattern is seen. -/
structure Monitor where
  state : FeedState
  window : List Bool
  bad : Nat
  lostAt : Option Micros
deriving DecidableEq, Repr

/-- The shared hold state (R70). `due` says that a comparison of the count with the limit has found it reached and the firing is to come
at this instant (R71). -/
structure Hold where
  episode : Bool
  count : Nat
  fired : Bool
  due : Bool
deriving DecidableEq, Repr

/-! ### Answer and event unit (R149 to R164) -/

/-- The results of an answer, in the order of their codes (R185). -/
inductive Result where
  | done
  | alert
  | noSuchOrder
  | malformed
  | noSuchTable
  | range
  | readOnly
  | isProtected
  | locked
  | frozen
  | mismatch
  | presetBusy
  | noPreset
  | urgentActive
  | onAir
  | unset
deriving DecidableEq, Repr

/-- The thirteen event latches (R152). -/
inductive Event where
  | feedLost
  | feedDegraded
  | feedRestored
  | syncLost
  | syncSlip
  | cueLate
  | scheduleFull
  | ceilingEnd
  | holdEnd
  | strayEnd
  | presetFault
  | answerLost
  | triggerLost
deriving DecidableEq, Repr

/-- A queued answer: what is fixed when it is queued (R150), and whether it is the DONE of a RESTART (R164). -/
structure Answer where
  tag : Byte
  result : Result
  data : List Byte
  ofRestart : Bool
deriving DecidableEq, Repr

/-- The answer and event unit. -/
structure AnswerUnit where
  queue : List Answer
  lost : Nat
  latches : BitVec 13
  mask : BitVec 13
  marker : Bool
  restartAt : Option Micros
deriving DecidableEq, Repr

/-- The answer and event unit after a hard reset and after a restart (R149, R152, R153, R163, R164). -/
def AnswerUnit.reset : AnswerUnit := { queue := [], lost := 0, latches := 0, mask := 0, marker := false, restartAt := none }

/-! ### Protection, freeze, preset (R165 to R182) -/

/-- The protect flags, bit t − 1 for table t, and the protect lock (R165, R167). -/
structure Protect where
  flags : BitVec 8
  lock : Bool
deriving DecidableEq, Repr

/-- The frozen values of a lane whose freeze flag is set (R170). -/
structure Frozen where
  station : Half
  zone : Zone
deriving DecidableEq, Repr

/-- How an order is answered: its tag, and whether it is answered at all (R145). -/
structure Reply where
  tag : Byte
  answered : Bool
deriving DecidableEq, Repr

/-- The start-up load (R176, R177). `next` is the step to end next: 0 to 7 for T1 to T8, 8 for the protect flags, 9 to 12 for the freeze
places, 13 for the end. `image` is the judgement of the header: none before it is read. `defaulted` holds bit t − 1 for each table that
took its defaults. -/
structure StartUp where
  next : Nat
  image : Option Bool
  defaulted : BitVec 8
deriving DecidableEq, Repr

/-- A SAVE PRESET (R180). `next` is the write to complete next: 0 the INVALID header, 1 to 8 the tables, 9 the protect record, 10 the VALID
header. -/
structure Saving where
  next : Nat
  reply : Reply
deriving DecidableEq, Repr

/-- A LOAD PRESET (R181). `todo` are the table numbers still to place; `flags` that the protect record is still to be loaded; `lockClear`
that the lock was clear when the order was taken. -/
structure Reload where
  headerRead : Bool
  todo : List Nat
  flags : Bool
  lockClear : Bool
  defaulted : BitVec 8
  reply : Reply
deriving DecidableEq, Repr

/-- A FREEZE LANE write (R171). -/
structure Freezing where
  lane : LaneNo
  station : Half
  zone : Zone
  reply : Reply
deriving DecidableEq, Repr

/-- What the preset controller is doing: IDLE, LOADING (start-up or LOAD PRESET), SAVING or FREEZING (R175). -/
inductive PresetOp where
  | idle
  | startUp (load : StartUp)
  | saving (save : Saving)
  | reloading (load : Reload)
  | freezing (freeze : Freezing)
deriving DecidableEq, Repr

/-- The memory condition (R175). -/
inductive MemCondition where
  | answering
  | silent
deriving DecidableEq, Repr

/-- The preset controller, and whether the start-up load has placed T7 (R109). -/
structure Preset where
  op : PresetOp
  condition : MemCondition
  t7Placed : Bool
deriving DecidableEq, Repr

/-- The contents of the preset memory's places (R174). -/
structure PresetMemory where
  header : List Byte
  tables : Vector (List Byte) 8
  flags : List Byte
  freeze : Vector (List Byte) 4
deriving DecidableEq, Repr

/-- A preset memory never written: every place holds the erased pattern (R188). -/
def PresetMemory.erased : PresetMemory :=
  { header := List.replicate 3 0xFF
    tables := Vector.ofFn (fun i => List.replicate (3 + entryCount (i.val + 1) * entrySize (i.val + 1)) 0xFF)
    flags := List.replicate 3 0xFF
    freeze := Vector.replicate 4 (List.replicate 6 0xFF) }

/-! ### The whole part -/

/-- The state of the DI4. `clock` is the site clock; `siteAddress` and `loadSource` are the straps as the last reset read them; `guard` is the
GUARD input; `choices` counts the free choices made (the model's own field, assumption 3); `pending` is the queue of commands that wait,
first in, first out. -/
structure State where
  clock : Micros
  siteAddress : Byte
  loadSource : LoadSource
  guard : Bool
  tables : Tables
  titles : Vector TitleRecord 16
  lanes : Vector Lane 4
  recentCues : List Byte
  timebase : Timebase
  sync : SyncLine
  feed : FeedPort
  monitor : Monitor
  hold : Hold
  answers : AnswerUnit
  protect : Protect
  frozen : Vector (Option Frozen) 4
  preset : Preset
  memory : PresetMemory
  choices : Nat
  pending : List Instr
deriving DecidableEq, Repr

/-- The DI4 has no fault: no rule of the spec stops the part. -/
inductive Fault where
deriving DecidableEq, Repr

/-- Why a command has no meaning. -/
inductive Refusal where
  /-- Raised by an arm of `exec` whose command is not modelled; no arm is left that raises it. Safe: the machine stops. -/
  | notModelled (mnemonic : String)
deriving DecidableEq, Repr

/-- The part right after a hard reset (R176, step 1 and 4). The straps read address 0 and LOAD SOURCE PRESET, GUARD is inactive, the preset
memory has never been written and answers (assumptions 4 to 7). -/
def State.reset : State :=
  { clock := 0
    siteAddress := 0
    loadSource := .preset
    guard := false
    tables := Tables.default
    titles := Vector.replicate 16 TitleRecord.empty
    lanes := Vector.replicate 4 Lane.reset
    recentCues := []
    timebase := Timebase.reset
    sync := { pulseAt := none, lowUntil := none }
    feed := { inProgress := none, forwards := [], sending := none }
    monitor := { state := .absent, window := [], bad := 0, lostAt := some 100000 }
    hold := { episode := true, count := 0, fired := false, due := false }
    answers := AnswerUnit.reset
    protect := { flags := 0xFF, lock := false }
    frozen := Vector.replicate 4 none
    preset := { op := .startUp { next := 0, image := none, defaulted := 0 }, condition := .answering, t7Placed := false }
    memory := PresetMemory.erased
    choices := 0
    pending := [] }

/-! ### Named updates -/

/-- Put the site clock at `t`. -/
def State.putClock (s : State) (t : Micros) : State := { s with clock := t }
/-- Put the GUARD input. -/
def State.putGuard (s : State) (b : Bool) : State := { s with guard := b }
/-- Put the tables T1 to T8. -/
def State.putTables (s : State) (T : Tables) : State := { s with tables := T }
/-- Put the title store. -/
def State.putTitles (s : State) (v : Vector TitleRecord 16) : State := { s with titles := v }
/-- Put all lanes. -/
def State.putLanes (s : State) (v : Vector Lane 4) : State := { s with lanes := v }
/-- Put one lane. -/
def State.putLane (s : State) (n : LaneNo) (l : Lane) : State := { s with lanes := s.lanes.set n l }
/-- Put the recent-cue list. -/
def State.putRecentCues (s : State) (l : List Byte) : State := { s with recentCues := l }
/-- Put the timebase. -/
def State.putTimebase (s : State) (t : Timebase) : State := { s with timebase := t }
/-- Put the SYNC line. -/
def State.putSync (s : State) (y : SyncLine) : State := { s with sync := y }
/-- Put the feed port. -/
def State.putFeed (s : State) (f : FeedPort) : State := { s with feed := f }
/-- Put the feed monitor. -/
def State.putMonitor (s : State) (m : Monitor) : State := { s with monitor := m }
/-- Put the hold state. -/
def State.putHold (s : State) (h : Hold) : State := { s with hold := h }
/-- Put the answer unit. -/
def State.putAnswers (s : State) (a : AnswerUnit) : State := { s with answers := a }
/-- Put the protect flags and lock. -/
def State.putProtect (s : State) (p : Protect) : State := { s with protect := p }
/-- Put the freeze flags and values. -/
def State.putFrozen (s : State) (v : Vector (Option Frozen) 4) : State := { s with frozen := v }
/-- Put the preset controller. -/
def State.putPreset (s : State) (p : Preset) : State := { s with preset := p }
/-- Put the contents of the preset memory. -/
def State.putMemory (s : State) (m : PresetMemory) : State := { s with memory := m }
/-- Put the queue of commands. -/
def State.putPending (s : State) (q : List Instr) : State := { s with pending := q }
/-- Put the count of free choices. -/
def State.putChoices (s : State) (n : Nat) : State := { s with choices := n }

end Sys2Proof.Machine
end

