-- ==== Sys2Proof/Machine/Ops.lean ====
section
/-! DEFINITION. The named operations that the blocks share: time, event latches and answers (R149 to R153), the feed-loss hold (R70, R71, R143),
and a change of the tables with what it does at once (R109, R110, R143). -/

namespace Sys2Proof.Machine

/-! ### Time (R113) -/

/-- Within `elapsed` µs of its beginning the 551 bytes of a frame have been sent, at the rate at which 548 of them arrived in `span` (R132). -/
def Forward.over (f : Forward) (elapsed : Int) : Bool := decide (551 * (f.span : Int) ≤ 548 * elapsed)

/-- The feed port when the clock stands at `clock` and `more` µs have passed since: a frame whose sending has ended is no longer on FEED OUT and
AUDIO OUT (R132). -/
def FeedPort.sentBy (p : FeedPort) (clock : Micros) (more : Nat) : FeedPort :=
  { p with sending := p.sending.filter (fun f => !f.over (sdiff clock f.start + more)) }

/-- An event from outside falls at instant `t`: the site clock stands there. It has run on to `t`, wrapping if need be, however long nothing
happened (R113, assumption 1); a frame whose sending has ended by then leaves FEED OUT (R132, assumption 26). -/
def State.clockAt (s : State) (t : Micros) : State := (s.putClock t).putFeed (s.feed.sentBy s.clock (t - s.clock).toNat)

/-- The part's own timing reaches instant `t`, which lies less than half the clock's range ahead: the site clock stands there, unless it already
stands past it (R113, assumption 1). -/
def State.clockTo (s : State) (t : Micros) : State := if atOrBefore s.clock t then s.clockAt t else s

/-! ### Lanes -/

/-- Change one lane by `f`. -/
def State.modLane (s : State) (n : LaneNo) (f : Lane → Lane) : State := s.putLane n (f s.lanes[n])

/-- Change every lane by `f`. -/
def State.mapLanes (s : State) (f : Lane → Lane) : State := s.putLanes (s.lanes.map f)

/-- The lanes in number order. -/
def laneNumbers : List LaneNo := [0, 1, 2, 3]

/-- The order in which the lanes are taken inside a step. The spec leaves it open, and the command gives it; number order stands for an operand
that does not name every lane once (assumption 2). -/
def orderOf (order : List LaneNo) : List LaneNo :=
  if order.length = 4 ∧ laneNumbers.all (fun n => order.contains n) then order else laneNumbers

/-- The kind of the top level of a stack, none for an empty one (R57, R58). -/
def topKind (stack : List Level) : Option LevelKind := stack.getLast?.map Level.kind

/-- A stack holds a level of a kind. -/
def holds (stack : List Level) (k : LevelKind) : Bool := stack.any (fun l => l.kind == k)

/-- The lane's stack holds URGENT (R148). -/
def State.urgentOn (s : State) (n : LaneNo) : Bool := holds s.lanes[n].stack .urgent

/-- The level kind of the top decides B: BULLETIN or URGENT (R74). -/
def flagB (stack : List Level) : Bool := topKind stack == some .bulletin || topKind stack == some .urgent

/-- The level kind of the top decides U: URGENT (R74). -/
def flagU (stack : List Level) : Bool := topKind stack == some .urgent

/-! ### Answers (R145, R149) -/

/-- A part whose address straps read 0 or 255 is in listen-only (R135). -/
def State.listenOnly (s : State) : Bool := s.siteAddress == 0 || s.siteAddress == 255

/-- The number of an event's latch (R185). -/
def Event.number : Event → Nat
  | .feedLost => 0
  | .feedDegraded => 1
  | .feedRestored => 2
  | .syncLost => 3
  | .syncSlip => 4
  | .cueLate => 5
  | .scheduleFull => 6
  | .ceilingEnd => 7
  | .holdEnd => 8
  | .strayEnd => 9
  | .presetFault => 10
  | .answerLost => 11
  | .triggerLost => 12

/-- The set that holds one event alone. -/
def Event.bit (e : Event) : BitVec 13 := (1#13) <<< e.number

/-- The latch of an event is set. -/
def State.latched (s : State) (e : Event) : Bool := s.answers.latches.getLsbD e.number

/-- An answer joins the queue of an answer unit, or, at a full queue, is dropped: the lost count goes up, saturating at 255, and ANSWER_LOST
latches, which queues no alert (R149, R153). -/
def AnswerUnit.join (u : AnswerUnit) (a : Answer) : AnswerUnit :=
  if u.queue.length < 8 then { u with queue := u.queue ++ [a] }
  else { u with lost := if u.lost < 255 then u.lost + 1 else 255, latches := u.latches ||| Event.answerLost.bit }

/-- Queue an answer. A part in listen-only queues none, and none counts as lost there (R145). -/
def State.queueAnswer (s : State) (a : Answer) : State := if s.listenOnly then s else s.putAnswers (s.answers.join a)

/-- A set of latches as two bytes (R185). -/
def eventBytes (v : BitVec 13) : List Byte := be16 (v.setWidth 16)

/-- Set an event's latch; a latch that goes from clear to set with its mask bit open queues an ALERT answer carrying all latches, but for
ANSWER_LOST (R152, R153). -/
def State.latch (s : State) (e : Event) : State :=
  if s.latched e then s
  else
    let latches := s.answers.latches ||| e.bit
    let s' := s.putAnswers { s.answers with latches := latches }
    if s.answers.mask.getLsbD e.number && e != .answerLost then
      s'.queueAnswer { tag := 0, result := .alert, data := eventBytes latches, ofRestart := false }
    else s'

/-- Set the latches of several events, one after another. -/
def State.latchAll (s : State) (events : List Event) : State := events.foldl State.latch s

/-- Set an event's latch if a condition holds. -/
def State.latchIf (s : State) (b : Bool) (e : Event) : State := if b then s.latch e else s

/-- Answer an order with a result and data, if it is answered at all (R145). -/
def State.reply (s : State) (r : Reply) (result : Result) (data : List Byte) : State :=
  if r.answered then s.queueAnswer { tag := r.tag, result := result, data := data, ofRestart := false } else s

/-! ### The holdover report and the feed-loss hold (R70, R71, R143) -/

/-- The holdover report of a feed state under the site table (R143). -/
def holdoverReport (st : FeedState) (site : SiteEntry) : Bool :=
  match st with
  | .absent => true
  | .lost => true
  | .degraded => site.holdoverOnDegraded
  | .good => false

/-- The holdover report of the part. -/
def State.holdover (s : State) : Bool := holdoverReport s.monitor.state s.tables.site

/-- The hold state at the beginning of an episode: count 0, and fired at once when the limit is 0 (R70, R71). -/
def Hold.begun (limit : Nat) : Hold := { episode := true, count := 0, fired := limit == 0, due := false }

/-- The hold state outside an episode (R70). -/
def Hold.none : Hold := { episode := false, count := 0, fired := false, due := false }

/-- A firing of the hold reaches a lane: one that is ON_AIR at that moment has its hold-pending flag set (R71). -/
def Lane.heldBy (fires : Bool) (l : Lane) : Lane := if fires && l.mode == .onAir then { l with holdPending := true } else l

/-- An episode begins, and with a hold limit of 0 the hold fires at once (R70, R71). -/
def State.beginEpisode (s : State) : State :=
  (s.putHold (Hold.begun s.tables.site.holdLimit)).mapLanes (Lane.heldBy (s.tables.site.holdLimit == 0))

/-- Bring the episode into line with the holdover report: a report that has come on begins an episode, one that has gone off ends it
(R70). -/
def State.syncHold (s : State) : State :=
  if s.holdover && !s.hold.episode then s.beginEpisode
  else if !s.holdover && s.hold.episode then s.putHold Hold.none
  else s

/-- The hold fires, if the comparison of a cycle start has found the limit reached: the fired flag is set and the hold-pending flag of every lane
that is ON_AIR at that moment (R71). -/
def State.fireHold (s : State) : State :=
  if s.hold.due then (s.putHold { s.hold with fired := true, due := false }).mapLanes (Lane.heldBy true) else s

/-- A cycle start in the hold state: while an episode is in progress and has not fired, the count goes up and is compared with the limit
(R71). -/
def Hold.cycleStart (h : Hold) (limit : Nat) : Hold :=
  if h.episode && !h.fired && !h.due then { h with count := h.count + 1, due := decide (limit ≤ h.count + 1) } else h

/-! ### A change of the tables -/

/-- A cue line whose mode is changed to a different value: any train or held level ends; the queue is kept (R110). -/
def CueLine.modeChanged (c : CueLine) : CueLine :=
  { c with train := .idle, phaseEnd := none, remaining := 0, followed := false, closing := false }

/-- Put new contents in the tables, with what a change does at once: a cue line's changed mode (R110) and the holdover report (R143). -/
def State.changeTables (s : State) (T : Tables) : State :=
  ((s.putTables T).putLanes (Vector.ofFn (fun n : Fin 4 =>
    if T.cueLines[n].mode = s.tables.cueLines[n].mode then s.lanes[n]
    else { s.lanes[n] with cue := s.lanes[n].cue.modeChanged }))).syncHold

/-! ### Preset controller (R175) -/

/-- The preset controller is LOADING, SAVING or FREEZING. -/
def State.presetBusy (s : State) : Bool := s.preset.op != .idle

/-- The protect flag of table number `t`, 1 to 8 (R165). -/
def State.protectFlag (s : State) (t : Nat) : Bool := s.protect.flags.getLsbD (t - 1)

end Sys2Proof.Machine
end

