-- ==== Sys2Proof/Machine/Answers.lean ====
section
/-! DEFINITION. The answer as it leaves the part: result codes, status summary and message bytes (R150, R151, R184 to R186), and the answer insertion
(R137). -/

namespace Sys2Proof.Machine

/-- The code of a result (R185). -/
def Result.code : Result → Byte
  | .done => 0
  | .alert => 1
  | .noSuchOrder => 2
  | .malformed => 3
  | .noSuchTable => 4
  | .range => 5
  | .readOnly => 6
  | .isProtected => 7
  | .locked => 8
  | .frozen => 9
  | .mismatch => 10
  | .presetBusy => 11
  | .noPreset => 12
  | .urgentActive => 13
  | .onAir => 14
  | .unset => 15

/-- The code of a feed state (R186). -/
def FeedState.code : FeedState → BitVec 2
  | .absent => 0
  | .good => 1
  | .degraded => 2
  | .lost => 3

/-- The code of a timebase state (R186). -/
def TbMode.code : TbMode → BitVec 3
  | .stopped => 0
  | .awaitSync => 1
  | .priming => 2
  | .running => 3
  | .holdover => 4

/-- The code of a lane's top level (R186). -/
def topCode : Option LevelKind → BitVec 2
  | none => 0
  | some .regular => 1
  | some .bulletin => 2
  | some .urgent => 3

/-- The lane is ON_AIR, as one bit. -/
def State.onAirBit (s : State) (n : LaneNo) : BitVec 1 := BitVec.ofBool (s.lanes[n].mode == .onAir)

/-- Status summary byte 1: feed state, timebase state, load marker, preset busy, attention (R151, R186). -/
def State.summary1 (s : State) : Byte :=
  s.monitor.state.code ++ s.timebase.mode.code ++ BitVec.ofBool s.answers.marker ++ BitVec.ofBool s.presetBusy ++
    BitVec.ofBool (s.answers.latches != 0)

/-- Status summary byte 2: lanes on air, GUARD, protect lock, two spare bits (R151, R186). -/
def State.summary2 (s : State) : Byte :=
  s.onAirBit 3 ++ s.onAirBit 2 ++ s.onAirBit 1 ++ s.onAirBit 0 ++ BitVec.ofBool s.guard ++ BitVec.ofBool s.protect.lock ++ (0 : BitVec 2)

/-- Status summary byte 3: the top level of each lane (R151, R186). -/
def State.summary3 (s : State) : Byte :=
  topCode (topKind s.lanes[3].stack) ++ topCode (topKind s.lanes[2].stack) ++ topCode (topKind s.lanes[1].stack) ++
    topCode (topKind s.lanes[0].stack)

/-- An answer as the message that carries it, its site address, status summary and lost count read at this instant (R150, R184). -/
def State.answerMessage (s : State) (a : Answer) : List Byte :=
  [kindAnswer, byteOf (7 + a.data.length), s.siteAddress, a.tag, a.result.code, s.summary1, s.summary2, s.summary3, byteOf s.answers.lost] ++
    a.data

/-- An answer's message length (R137, R150). -/
def Answer.size (a : Answer) : Nat := 9 + a.data.length

/-- The answers of a queue that fit, in order, from position `p` of a field; none passes one that does not fit (R137). -/
def fitting (p : Nat) : List Answer → List Answer
  | [] => []
  | a :: rest => if p + a.size ≤ 64 then a :: fitting (p + a.size) rest else []

/-- The field after an insertion that began at `p`: the messages before `p`, the answers inserted, and 0x00 to its end (R137). -/
def State.filledField (s : State) (field : List Byte) (p : Nat) (inserted : List Answer) : List Byte :=
  let l := field.take p ++ inserted.flatMap s.answerMessage
  l ++ List.replicate (64 - l.length) 0

/-- The answers inserted leave the queue (R137, R149). -/
def State.dropAnswers (s : State) (n : Nat) : State := s.putAnswers { s.answers with queue := s.answers.queue.drop n }

end Sys2Proof.Machine
end

