-- ==== Sys2Proof/Machine/CueLines.lean ====
section
/-! DEFINITION. The cue line units (06_cue_lines.md): trains, the handling of a trigger's edge by mode, cycle starts, and the level driven. -/

namespace Sys2Proof.Machine

/-- Some ticks in µs. -/
def ticks (n : Nat) : Micros := micros (n * Config.tickMicros)

/-- A train starts at `t`: it copies widths and count from the entry as it stands and enters HIGH (R105). -/
def CueLine.startTrain (c : CueLine) (e : CueEntry) (t : Micros) : CueLine :=
  { c with train := .high, phaseEnd := some (t + ticks e.high), remaining := e.pulses, widths := some (e.high, e.low) }

/-- A train ends, or is cut: IDLE (R105, R106). -/
def CueLine.endTrain (c : CueLine) : CueLine := { c with train := .idle, phaseEnd := none, remaining := 0 }

/-- A train starts if none runs. -/
def CueLine.startIfIdle (c : CueLine) (e : CueEntry) (t : Micros) : CueLine := if c.train = .idle then c.startTrain e t else c

/-- A running train ends at `t`, by running out or by being cut; a closing train that is pending starts at that instant, and is pending no
longer (R105, R108). -/
def CueLine.trainOver (c : CueLine) (e : CueEntry) (t : Micros) : CueLine :=
  if c.closing then { c.endTrain with closing := false }.startTrain e t else c.endTrain

/-- The completion setting on a down edge: TRUNCATE ends a running train (R106, R108). -/
def CueLine.complete (c : CueLine) (e : CueEntry) (t : Micros) : CueLine :=
  if e.truncate && c.train != .idle then c.trainOver e t else c

/-- The closing train that a down edge gives in REPEAT with trigger edge BOTH (R108): at once when no train runs, or when the running one is cut
by TRUNCATE; else it is pending until the running train ends. However many down edges meet that train, one closing train follows. -/
def CueLine.closeTrain (c : CueLine) (e : CueEntry) (t : Micros) : CueLine :=
  if c.train = .idle then c.startTrain e t
  else if e.truncate then { c with closing := true }.trainOver e t
  else { c with closing := true }

/-- The followed flag rises at this edge. -/
def Edge.up : Edge → Bool
  | .bUp => true
  | .bDown => false
  | .uUp => true
  | .uDown => false

/-- The edge belongs to the urgent flag. -/
def Edge.isUrgent : Edge → Bool
  | .bUp => false
  | .bDown => false
  | .uUp => true
  | .uDown => true

/-- LEVEL: an up edge holds the line active, a down edge releases it (R104). -/
def CueLine.levelEdge (c : CueLine) (up : Bool) : CueLine :=
  if up then { c with train := .high, phaseEnd := none } else { c with train := .idle, phaseEnd := none }

/-- PULSE (R106). -/
def CueLine.pulseEdge (c : CueLine) (e : CueEntry) (up : Bool) (t : Micros) : CueLine :=
  match e.edge, up with
  | .start, true => c.startIfIdle e t
  | .start, false => c.complete e t
  | .finish, true => c
  | .finish, false => c.startIfIdle e t
  | .both, _ => c.startIfIdle e t

/-- REPEAT (R107, R108). With trigger edge END no edge changes the followed level, the model's choice where R101 and R108 leave it open (assumption
35). -/
def CueLine.repeatEdge (c : CueLine) (e : CueEntry) (up : Bool) (t : Micros) : CueLine :=
  match e.edge, up with
  | .finish, true => c
  | .finish, false => c.startIfIdle e t
  | _, true => { c with followed := true }.startIfIdle e t
  | .start, false => { c with followed := false }.complete e t
  | .both, false => { c with followed := false }.closeTrain e t

/-- An edge that falls due at `t`, handled by the mode and settings of the entry as they stand (R103). -/
def CueLine.edgeDue (c : CueLine) (e : CueEntry) (edge : Edge) (t : Micros) : CueLine :=
  match e.mode with
  | .off => c
  | .level => c.levelEdge edge.up
  | .pulse => c.pulseEdge e edge.up t
  | .repeating => c.repeatEdge e edge.up t

/-- A cycle start at `t`: in REPEAT with trigger edge START or BOTH and the followed level up, a train starts if none runs (R107). -/
def CueLine.cycleStart (c : CueLine) (e : CueEntry) (t : Micros) : CueLine :=
  if e.mode = .repeating ∧ e.edge ≠ .finish ∧ c.followed = true then c.startIfIdle e t else c

/-- A running train's phase ends at `t`, which was its phase end (R105). A train that ends starts a pending closing train at that instant
(R108). -/
def CueLine.phaseOver (c : CueLine) (e : CueEntry) (t : Micros) : CueLine :=
  match c.train with
  | .idle => c
  | .low => { c with train := .high, phaseEnd := some (t + ticks (c.widths.map Prod.fst |>.getD 0)) }
  | .high =>
    if 1 < c.remaining then
      { c with train := .low, phaseEnd := some (t + ticks (c.widths.map Prod.snd |>.getD 0)), remaining := c.remaining - 1 }
    else c.trainOver e t

/-- Insert a queued trigger after every entry whose due time is at or before its own (R102). -/
def insertQueued (q : Queued) : List Queued → List Queued
  | [] => [q]
  | p :: rest => if atOrBefore p.due q.due then p :: insertQueued q rest else q :: p :: rest

/-- The due time of a trigger that arrives at `arrival` (R102, steps 3 and 4). -/
def dueTime (e : CueEntry) (t : Trigger) (arrival : Micros) : Micros :=
  let reference := if e.fromAudio then t.audio.getD t.line else t.line
  let due := reference + ticks e.delay
  if atOrBefore due arrival then arrival else due

/-- The unit follows the flag of an edge (R100, R102). -/
def CueEntry.follows (e : CueEntry) (edge : Edge) : Bool := e.urgentOnly == edge.isUrgent

/-- A trigger reaches the cue line unit of an ON_AIR lane (R102). The flag says that it was dropped at a full queue. -/
def CueLine.arrive (c : CueLine) (e : CueEntry) (t : Trigger) (arrival : Micros) : CueLine × Bool :=
  if e.mode = .off ∨ e.follows t.edge = false then (c, false)
  else if c.queue.length < 4 then
    ({ c with queue := insertQueued { edge := t.edge, due := dueTime e t arrival } c.queue }, false)
  else (c, true)

/-- Change the cue line of lane `n`. -/
def State.modCue (s : State) (n : LaneNo) (f : CueLine → CueLine) : State := s.modLane n (fun l => { l with cue := f l.cue })

/-- A cycle start at `t` reaches every cue line (R107, R115). -/
def State.cueCycleStart (s : State) (t : Micros) : State :=
  s.putLanes (Vector.ofFn (fun n : Fin 4 => { s.lanes[n] with cue := s.lanes[n].cue.cycleStart s.tables.cueLines[n] t }))

/-- The logical state of a cue line: its train's output under the force setting (R109). -/
def CueLine.active (c : CueLine) (f : Force) : Bool :=
  match f with
  | .normal => c.train == .high
  | .active => true
  | .inactive => false

/-- The electrical level driven on CUE `n`, high or not (R109): until the start-up load has placed T7 the line is inactive under the polarity
that T7 holds, with no force applied. -/
def State.cueLevel (s : State) (n : LaneNo) : Bool :=
  let e := s.tables.cueLines[n]
  let active := s.preset.t7Placed && s.lanes[n].cue.active e.force
  active != e.activeLow

/-! ### TRIGGER_ARRIVES, TRIGGER_DUE, PHASE_END -/

/-- TRIGGER_ARRIVES (R102): the oldest trigger posted to lane `n`'s cue line reaches it. At a lane no longer ON_AIR it is discarded (R111). -/
def State.triggerArrives (s : State) (n : LaneNo) : State :=
  match s.lanes[n].triggers with
  | [] => s
  | t :: rest =>
    let s := s.modLane n (fun l => { l with triggers := rest })
    if s.lanes[n].mode = .onAir then
      let r := s.lanes[n].cue.arrive s.tables.cueLines[n] t s.clock
      (s.modCue n (fun _ => r.1)).latchIf r.2 .triggerLost
    else s

/-- TRIGGER_DUE (R103): the front trigger of lane `n`'s queue falls due. -/
def State.triggerDue (s : State) (n : LaneNo) : State :=
  match s.lanes[n].cue.queue with
  | [] => s
  | q :: rest => (s.clockTo q.due).modCue n (fun c => { c with queue := rest }.edgeDue s.tables.cueLines[n] q.edge q.due)

/-- PHASE_END (R105): the running phase of lane `n`'s train ends. -/
def State.phaseEnd (s : State) (n : LaneNo) : State :=
  match s.lanes[n].cue.phaseEnd with
  | none => s
  | some t => (s.clockTo t).modCue n (fun c => c.phaseOver s.tables.cueLines[n] t)

/-- What TRIGGER_ARRIVES does. -/
def execTriggerArrives (n : LaneNo) (s : State) : Host.Outcome State Fault Refusal := .next (s.triggerArrives n)

/-- What TRIGGER_DUE does. -/
def execTriggerDue (n : LaneNo) (s : State) : Host.Outcome State Fault Refusal := .next (s.triggerDue n)

/-- What PHASE_END does. -/
def execPhaseEnd (n : LaneNo) (s : State) : Host.Outcome State Fault Refusal := .next (s.phaseEnd n)

end Sys2Proof.Machine
end

