-- ==== Sys2Proof/Machine/Scheduler.lean ====
section
/-! DEFINITION. The carousel scheduler (02_the_carousel_scheduler.md) and the cutting of items into segments (R54, R55). -/

namespace Sys2Proof.Machine

/-- What the scheduler reads besides the lane (R24): the tables, the title store and the lane's number. -/
structure Store where
  tables : Tables
  titles : Vector TitleRecord 16
  lane : LaneNo
deriving DecidableEq, Repr

/-- The store as lane `n` reads it. -/
def State.store (s : State) (n : LaneNo) : Store := { tables := s.tables, titles := s.titles, lane := n }

/-- The lane's LANE entry. -/
def Store.entry (x : Store) : LaneEntry := x.tables.lane[x.lane]

/-- The active length of the lane's list of a kind (R18). -/
def Store.listLength (x : Store) : LevelKind → Nat
  | .regular => x.entry.regularLen
  | .bulletin => x.entry.bulletinLen
  | .urgent => x.entry.urgentLen

/-- Entry `i` of the lane's list of a kind (R18). An active length beyond its range, which only a preset record can give, can lead past the lane's
entries: the entry read is what stands there in the table, and past the table's end a default one, not enabled (assumption 8). -/
def Store.listEntry (x : Store) (k : LevelKind) (i : Nat) : ListEntry :=
  match k with
  | .regular => (x.tables.regular[32 * x.lane.val + i]?).getD ListEntry.default
  | .bulletin => (x.tables.bulletin[8 * x.lane.val + i]?).getD ListEntry.default
  | .urgent => (x.tables.urgent[4 * x.lane.val + i]?).getD ListEntry.default

/-- An index of 8 names or lists. One above 7 comes only from a preset record out of range, and is free (assumption 8). -/
def index8 (b : Byte) : Fin 8 := if h : b.toNat < 8 then ⟨b.toNat, h⟩ else ⟨Config.strayIndex b % 8, Nat.mod_lt _ (by decide)⟩

/-- The item of a list entry: title index 16 is the lane's own zone, resolved at each read (R19). An index above it comes only from a preset record
out of range, and is free (assumption 8). -/
def Store.item (x : Store) (e : ListEntry) : Item :=
  match e.kind with
  | .fill => .fill
  | .name => .name (index8 e.index)
  | .neighbour => .neighbour (index8 e.index)
  | .title => if h : e.index.toNat < 16 then .title ⟨e.index.toNat, h⟩ 
    else if e.index = 16 then .title x.entry.zone else .title (Config.strayZone e.index)

/-- The segment count of an item at this read (R54). -/
def Store.segmentCount (x : Store) : Item → Nat
  | .name _ => 2
  | .title z => (x.titles[z].length + 8) / 9
  | .neighbour j => (x.tables.neighbours[j].count + 7) / 8
  | .fill => 0

/-- The item has content (R21). -/
def Store.hasContent (x : Store) : Item → Bool
  | .name i => x.tables.names[i].isSet
  | .title z => decide (1 ≤ x.titles[z].length)
  | .neighbour j => decide (1 ≤ x.tables.neighbours[j].count)
  | .fill => true

/-- An entry is sendable: enabled, and its item has content (R21). -/
def Store.sendable (x : Store) (e : ListEntry) : Bool := e.enabled && x.hasContent (x.item e)

/-! ### Item segment cursors (R23) -/

/-- The lane's segment cursor for an item. -/
def SegCursors.get (c : SegCursors) : Item → Nat
  | .name i => c.names[i]
  | .title z => c.titles[z]
  | .neighbour j => c.neighbours[j]
  | .fill => 0

/-- Set the lane's segment cursor for an item; FILL has none. -/
def SegCursors.put (c : SegCursors) (it : Item) (v : Nat) : SegCursors :=
  match it with
  | .name i => { c with names := c.names.set i v }
  | .title z => { c with titles := c.titles.set z v }
  | .neighbour j => { c with neighbours := c.neighbours.set j v }
  | .fill => c

/-- What a selection hands the frame builder (R29). -/
structure Content where
  item : Item
  segment : Nat
  count : Nat
deriving DecidableEq, Repr

/-- The content of a FILL frame (R29). -/
def Content.fill : Content := { item := .fill, segment := 0, count := 0 }

/-- The segment an item's cursor names, after the clamp: a cursor at or beyond the count is 0 (R23). -/
def clampSeg (cursor count : Nat) : Nat := if count ≤ cursor then 0 else cursor

/-- Send one segment of an item: the segment at its cursor after the clamp; the cursor moves to the next, or to 0 after the last (R23, R28).
A FILL item carries nothing. -/
def Store.sendSegment (x : Store) (c : SegCursors) (it : Item) : Content × SegCursors :=
  match it with
  | .fill => (Content.fill, c)
  | it =>
    let count := x.segmentCount it
    let seg := clampSeg (c.get it) count
    ({ item := it, segment := seg, count := count }, c.put it (if count ≤ seg + 1 then 0 else seg + 1))

/-! ### Visits (R25 to R28) -/

/-- The search of R27: from entry `start`, in turn, wrapping after the last entry below the active length, over at most as many entries as the
active length; the first sendable entry. -/
def Store.search (x : Store) (k : LevelKind) (start : Nat) : Option Nat :=
  ((List.range (x.listLength k)).map (fun j => (start + j) % x.listLength k)).find? (fun i => x.sendable (x.listEntry k i))

/-- Move a cursor by a search from `start`: to the entry found with a new visit, or, when none is found, to no visit at the entry it stands at
(R27). -/
def Store.seek (x : Store) (k : LevelKind) (c : Cursor) (start : Nat) : Cursor :=
  match x.search k start with
  | some i => { entry := i, visit := some (x.item (x.listEntry k i)), progress := 0 }
  | none => { entry := c.entry, visit := none, progress := 0 }

/-- The length check (R25). -/
def Store.lengthCheck (x : Store) (k : LevelKind) (c : Cursor) : Cursor := if x.listLength k ≤ c.entry then Cursor.start else c

/-- The conditions under which a visit continues (R26). -/
def Store.visitContinues (x : Store) (k : LevelKind) (c : Cursor) : Bool :=
  let e := x.listEntry k c.entry
  e.enabled && c.visit == some (x.item e) && x.sendable e && decide (c.progress < e.burst)

/-- The visit stage: continue the visit, or open a new one (R26, R27). The cursor it leaves holds no visit exactly when nothing was found. -/
def Store.visitStage (x : Store) (k : LevelKind) (c : Cursor) : Cursor :=
  match c.visit with
  | some _ => if x.visitContinues k c then c else x.seek k c (c.entry + 1)
  | none => x.seek k c c.entry

/-- The send stage: one frame of the visit; a visit whose progress reaches the burst ends and the cursor advances at once (R28). Without a
visit the frame is FILL (R29). -/
def Store.sendStage (x : Store) (k : LevelKind) (c : Cursor) (segs : SegCursors) : Content × Cursor × SegCursors :=
  match c.visit with
  | none => (Content.fill, c, segs)
  | some it =>
    let sent := x.sendSegment segs it
    let c' : Cursor := { c with progress := c.progress + 1 }
    (sent.1, if (x.listEntry k c.entry).burst ≤ c'.progress then x.seek k c' (c.entry + 1) else c', sent.2)

/-! ### The insertion queue (R32 to R35) -/

/-- A request for title `z` arrives at a lane (R32). -/
def Lane.request (l : Lane) (z : Zone) : Lane :=
  if l.queue.contains z then
    if l.queue.head? = some z ∧ l.serving.isSome then { l with serving := some 0 } else l
  else if l.queue.length < 4 then { l with queue := l.queue ++ [z] }
  else l

/-- Send one frame of the served title, the oldest request; at the title's last frame the request is removed and the service becomes idle
(R34). -/
def Store.serve (x : Store) (l : Lane) (z : Zone) (sent : Nat) : Content × Lane :=
  let r := x.sendSegment l.segs (.title z)
  if x.segmentCount (.title z) ≤ sent + 1 then (r.1, { l with segs := r.2, queue := l.queue.tail, serving := none })
  else (r.1, { l with segs := r.2, serving := some (sent + 1) })

/-- Offer the frame to the oldest request with content; requests for empty titles before it are removed without a frame (R33). The start of a
service sets the title's segment cursor to 0. -/
def Store.offer (x : Store) (l : Lane) : Option Content × Lane :=
  match l.queue.dropWhile (fun z => !x.hasContent (.title z)) with
  | [] => (none, { l with queue := [], serving := none })
  | z :: rest =>
    let r := x.serve { l with queue := z :: rest, serving := some 0, segs := l.segs.put (.title z) 0 } z 0
    (some r.1, r.2)

/-- The insertion stage of a selection whose top level is REGULAR, with the progress of the REGULAR cursor after the length check (R33,
R34). -/
def Store.insertionStage (x : Store) (l : Lane) (progress : Nat) : Option Content × Lane :=
  match l.serving, l.queue with
  | some sent, z :: rest =>
    if !x.hasContent (.title z) || decide (x.segmentCount (.title z) ≤ sent) then
      let l' := { l with queue := rest, serving := none }
      if progress = 0 then x.offer l' else (none, l')
    else
      let r := x.serve l z sent
      (some r.1, r.2)
  | _, _ => if progress = 0 then x.offer l else (none, l)

/-! ### The selection (R24) -/

/-- The lane with its top level's cursor replaced. -/
def Lane.putTopCursor (l : Lane) (c : Cursor) : Lane :=
  match l.stack.getLast? with
  | some top => { l with stack := l.stack.dropLast ++ [{ top with cursor := c }] }
  | none => l

/-- The visit stage and the send stage of the top level's list. -/
def Store.sendFromList (x : Store) (l : Lane) (k : LevelKind) (c : Cursor) : Content × Lane :=
  let r := x.sendStage k (x.visitStage k c) l.segs
  (r.1, { (l.putTopCursor r.2.1) with segs := r.2.2 })

/-- One selection at positions 1 to 7: the length check, the insertion stage when the top level is REGULAR, then the visit and send stages
(R24). Under another top level a service in progress becomes idle and its request stays (R35). -/
def Store.select (x : Store) (l : Lane) : Content × Lane :=
  match l.stack.getLast? with
  | none => (Content.fill, l)
  | some top =>
    let c := x.lengthCheck top.kind top.cursor
    let l := l.putTopCursor c
    match top.kind with
    | .regular =>
      match x.insertionStage l c.progress with
      | (some content, l') => (content, l')
      | (none, l') => x.sendFromList l' .regular c
    | k => x.sendFromList { l with serving := none } k c

/-! ### Payloads (R4, R55) -/

/-- The payload of a content frame: nine characters, eight codes or nothing, copied from the item store as it stands (R4, R55). -/
def Store.payload (x : Store) (c : Content) : BitVec 72 :=
  match c.item with
  | .name i => charPayload (x.tables.names[i].chars.drop (9 * c.segment))
  | .title z => charPayload (x.titles[z].text.drop (9 * c.segment))
  | .neighbour j => codePayload (x.tables.neighbours[j].codes.drop (8 * c.segment))
  | .fill => 0

/-- The frame kind of an item. -/
def Item.frameKind : Item → FrameKind
  | .name _ => .name
  | .title _ => .title
  | .neighbour _ => .neighbour
  | .fill => .fill

end Sys2Proof.Machine
end

