-- ==== Sys2Proof/Machine/Bulletin.lean ====
section
/-! DEFINITION. The bulletin unit of a lane (04_bulletin_levels.md): applying transitions, ceilings and the hold removal, the B and U flags, the
flag-edge triggers, and the arrival of a record. -/

namespace Sys2Proof.Machine

/-! ### The level stack (R57, R62 to R64) -/

/-- A new BULLETIN or URGENT level, entered at frame `k` (R62, R63). -/
def Level.enter (kind : LevelKind) (k : AirNo) (ceiling : Nat) : Level :=
  { kind := kind, cursor := Cursor.start, life := some { entryFrame := k, ceiling := ceiling } }

/-- Insert a BULLETIN level directly above REGULAR (R62). -/
def insertBulletin (stack : List Level) (l : Level) : List Level :=
  match stack with
  | [] => [l]
  | r :: rest => r :: l :: rest

/-- Remove the level of a kind, wherever it stands (R64). -/
def removeKind (stack : List Level) (k : LevelKind) : List Level := stack.filter (fun l => l.kind != k)

/-- The entry frame of the level of a kind, if the stack holds one (R93). -/
def entryFrameOf (stack : List Level) (k : LevelKind) : Option AirNo :=
  (stack.find? (fun l => l.kind == k)).bind (fun l => l.life.map Life.entryFrame)

/-- Apply one transition record at the build of frame `k` (R62 to R65). The flag says that it was a stray END. -/
def Store.applyTransition (x : Store) (k : AirNo) (l : Lane) (r : Transition) : Lane × Bool :=
  match r.kind with
  | .bulletinStart =>
    if holds l.stack .bulletin then (l, false)
    else ({ l with stack := insertBulletin l.stack (Level.enter .bulletin k x.entry.bulletinCeiling), sequence := l.sequence + 1 }, false)
  | .urgentStart =>
    if holds l.stack .urgent then (l, false)
    else ({ l with stack := l.stack ++ [Level.enter .urgent k x.entry.urgentCeiling] }, false)
  | .bulletinEnd => if holds l.stack .bulletin then ({ l with stack := removeKind l.stack .bulletin }, false) else (l, true)
  | .urgentEnd => if holds l.stack .urgent then ({ l with stack := removeKind l.stack .urgent }, false) else (l, true)

/-- What step 1 of a build leaves: the lane, whether an END was stray, and for each flag the record after whose application it last changed
(R66, R76). -/
structure Applied where
  lane : Lane
  stray : Bool
  bCause : Option Transition
  uCause : Option Transition
deriving DecidableEq, Repr

/-- One record of step 1, with the flags followed through it (R76). -/
def Store.applyNext (x : Store) (k : AirNo) (a : Applied) (r : Transition) : Applied :=
  let p := x.applyTransition k a.lane r
  { lane := p.1
    stray := a.stray || p.2
    bCause := if flagB p.1.stack != flagB a.lane.stack then some r else a.bCause
    uCause := if flagU p.1.stack != flagU a.lane.stack then some r else a.uCause }

/-- The records of a schedule that a build of frame `k` takes from its front (R60). -/
def dueRecords (k : AirNo) (schedule : List Transition) : List Transition := schedule.takeWhile (fun r => atOrBefore r.target k)

/-- Step 1 of the build of frame `k`: every record whose target is at or before `k`, taken from the front of the schedule and applied in
schedule order (R60, R66). -/
def Store.applyDue (x : Store) (k : AirNo) (l : Lane) : Applied :=
  (dueRecords k l.schedule).foldl (x.applyNext k)
    { lane := { l with schedule := l.schedule.drop (dueRecords k l.schedule).length }, stray := false, bCause := none, uCause := none }

/-! ### Removals (R68, R72) -/

/-- A level's age at frame `k` is at or beyond its ceiling × 8 (R68). -/
def Level.atCeiling (k : AirNo) (l : Level) : Bool :=
  match l.life with
  | some life => decide ((8 * life.ceiling : Int) ≤ sdiff k life.entryFrame)
  | none => false

/-- Remove the levels whose age at frame `k` has reached their ceiling (R68). -/
def removeCeilings (k : AirNo) (stack : List Level) : List Level := stack.filter (fun l => !l.atCeiling k)

/-- A level entered before frame `k` (R72). -/
def Level.enteredBefore (k : AirNo) (l : Level) : Bool :=
  match l.life with
  | some life => before life.entryFrame k
  | none => false

/-- Remove the levels entered before frame `k` (R72). -/
def removeHeld (k : AirNo) (stack : List Level) : List Level := stack.filter (fun l => !l.enteredBefore k)

/-! ### Flags and triggers (R74 to R76) -/

/-- The audio time of a flag's trigger: that of the record that brought the flag to its final value in step 1, unless the record is late; none
when step 2 changed the flag (R76). -/
def triggerAudio (afterStep1 final : Bool) (cause : Option Transition) : Option Micros :=
  if afterStep1 != final then none
  else match cause with
    | some r => if r.late then none else some r.audio
    | none => none

/-- The triggers of a build: one for each flag that differs from the previous built frame's, B first (R75). -/
def edgeTriggers (prevB prevU b u : Bool) (line : Micros) (bAudio uAudio : Option Micros) : List Trigger :=
  (if b != prevB then [{ edge := if b then .bUp else .bDown, line := line, audio := bAudio }] else []) ++
  (if u != prevU then [{ edge := if u then .uUp else .uDown, line := line, audio := uAudio }] else [])

/-- What steps 1 to 4 of a build leave: the lane and the events that latched, in order. -/
structure Settled where
  lane : Lane
  events : List Event
deriving DecidableEq, Repr

/-- Steps 1 to 4 of the build of frame `k`: transitions, ceilings, hold removal, flags and triggers (R8). -/
def Store.settle (x : Store) (k : AirNo) (line : Micros) (l : Lane) : Settled :=
  let a := x.applyDue k l
  let afterCeiling := removeCeilings k a.lane.stack
  let final := if a.lane.holdPending then removeHeld k afterCeiling else afterCeiling
  let b := flagB final
  let u := flagU final
  { lane := { a.lane with
      stack := final
      holdPending := false
      prevB := b
      prevU := u
      triggers := a.lane.triggers ++ edgeTriggers a.lane.prevB a.lane.prevU b u line
        (triggerAudio (flagB a.lane.stack) b a.bCause) (triggerAudio (flagU a.lane.stack) u a.uCause) }
    events := (if a.stray then [.strayEnd] else []) ++
      (if afterCeiling.length < a.lane.stack.length then [.ceilingEnd] else []) ++
      (if final.length < afterCeiling.length then [.holdEnd] else []) }

/-! ### A record reaches the bulletin unit (R61) -/

/-- Insert a record after every record whose target is at or before its own (R59, R61). -/
def insertRecord (r : Transition) : List Transition → List Transition
  | [] => [r]
  | q :: rest => if atOrBefore q.target r.target then q :: insertRecord r rest else r :: q :: rest

/-- A record reaches lane `n` (R61): a lane that is not ON_AIR discards it; a target at or before the last built frame is raised past it, late,
and CUE_LATE latches; at a full schedule the record is dropped and SCHEDULE_FULL latches; else it is inserted in target order. -/
def State.takeRecord (s : State) (n : LaneNo) (r : Transition) : State :=
  if s.lanes[n].mode = .onAir then
    let raised := atOrBefore r.target s.lanes[n].lastBuilt
    let r' : Transition := if raised then { r with target := s.lanes[n].lastBuilt + 1, late := true } else r
    let s := s.latchIf raised .cueLate
    if s.lanes[n].schedule.length < 8 then s.modLane n (fun l => { l with schedule := insertRecord r' l.schedule })
    else s.latch .scheduleFull
  else s

end Sys2Proof.Machine
end

