-- ==== Sys2Proof/Machine/Frames.lean ====
section
/-! DEFINITION. The frame builder and the lane lines (01_air_frames_and_lanes.md): the build of a frame, the join, the line start and the end of a
frame on line, and the clearing of a lane. -/

namespace Sys2Proof.Machine

/-- The header word of a frame (R2, R29): a TITLE frame carries its title's zone, every other kind the lane's own; the version is always that
of the lane's own zone. -/
def Store.header (x : Store) (kind : FrameKind) (b u : Bool) (position : BitVec 3) (c : Content) : Header :=
  { kind := kind
    t := x.entry.traffic
    b := b
    u := u
    zone := match kind, c.item with
      | .title, .title z => z
      | _, _ => x.entry.zone
    position := position
    segment := c.segment
    version := x.titles[x.entry.zone].version
    count := if kind = .head then 1 else c.count }

/-- A HEAD frame (R3). -/
def Store.headFrame (x : Store) (f : LineFrame) (b u : Bool) (sequence : Byte) : AirFrame :=
  AirFrame.make f.number (x.header .head b u f.position Content.fill)
    (headPayload x.entry.station f.cycle x.entry.linked x.entry.trafficRef sequence)

/-- A frame at positions 1 to 7 (R4). -/
def Store.contentFrame (x : Store) (f : LineFrame) (b u : Bool) (c : Content) : AirFrame :=
  AirFrame.make f.number (x.header c.item.frameKind b u f.position c) (x.payload c)

/-- Steps 5 and 6 of a build: the content, and the frame built from it (R8). -/
def Store.fillFrame (x : Store) (f : LineFrame) (l : Lane) : Lane :=
  if f.position = 0 then { l with inBuild := some (x.headFrame f l.prevB l.prevU l.sequence), lastBuilt := f.number }
  else
    let r := x.select l
    { r.2 with inBuild := some (x.contentFrame f r.2.prevB r.2.prevU r.1), lastBuilt := f.number }

/-- The build of a frame by an ON_AIR lane (R8), with the events that latched. -/
def Store.build (x : Store) (f : LineFrame) (l : Lane) : Settled :=
  let r := x.settle f.number f.start l
  { r with lane := x.fillFrame f r.lane }

/-- The join build of a WAITING lane (R12): a HEAD frame with B and U clear and sequence number 0. -/
def Store.joinBuild (x : Store) (f : LineFrame) (l : Lane) : Lane :=
  { l with inBuild := some (x.headFrame f false false 0), lastBuilt := f.number }

/-- The timebase is RUNNING or HOLDOVER: lanes may join, cycle starts are produced. -/
def TbMode.onGrid (m : TbMode) : Bool := m == .running || m == .holdover

/-- The build instant of a frame at lane `n` (R8, R12): an ON_AIR lane builds; a WAITING lane makes its join build at position 0, while the
timebase is RUNNING or HOLDOVER, if it holds no join frame and its station code is not 0. The latches of one lane's build are set together, before
the next lane's, the model's choice where R153 leaves the order open (assumption 40). -/
def State.laneBuild (s : State) (f : LineFrame) (n : LaneNo) : State :=
  match s.lanes[n].mode with
  | .off => s
  | .waiting =>
    if f.position = 0 ∧ s.timebase.mode.onGrid = true ∧ s.lanes[n].inBuild = none ∧ s.tables.lane[n].station ≠ 0 then
      s.modLane n ((s.store n).joinBuild f)
    else s
  | .onAir =>
    let r := (s.store n).build f s.lanes[n]
    (s.putLane n r.lane).latchAll r.events

/-- A lane cleared as it enters OFF or WAITING (R15, R78, R111); records and triggers on their way to it are lost with the clearing. -/
def Lane.cleared (l : Lane) (toOff : Bool) : Lane :=
  { l with
    mode := if toOff then .off else .waiting
    stop := .none
    onLine := none
    inBuild := none
    stack := []
    schedule := []
    holdPending := false
    segs := if toOff then SegCursors.zero else l.segs
    queue := []
    serving := none
    records := []
    triggers := []
    cue := CueLine.cleared }

/-- A lane acts on its stop request at the end of its frame on line (R13, R14). -/
def Lane.actOnStop (l : Lane) : Lane := l.cleared (l.stop == .toOff)

/-- The join at the line start of the join frame (R12): ON_AIR with a single REGULAR level, sequence number 0 and flags clear. -/
def Lane.join (l : Lane) : Lane :=
  { l with
    mode := .onAir
    onLine := l.inBuild
    inBuild := none
    stack := [Level.regular]
    schedule := []
    sequence := 0
    prevB := false
    prevU := false
    queue := []
    serving := none }

/-- Lane `n` at a line start, with the frame whose build instant falls there (R9, R12). -/
def State.laneLineStart (s : State) (next : LineFrame) (n : LaneNo) : State :=
  match s.lanes[n].mode with
  | .off => s
  | .waiting =>
    match s.lanes[n].inBuild with
    | some _ => (s.modLane n Lane.join).laneBuild next n
    | none => s.laneBuild next n
  | .onAir =>
    if s.lanes[n].stop = .none then
      (s.modLane n (fun l => { l with onLine := l.inBuild, inBuild := none })).laneBuild next n
    else s.modLane n Lane.actOnStop

/-- A lane at a final frame end (R115): its frame on line is complete, it puts no new one there, and it acts on its stop request. A final frame
end of a stop discards a frame in build or join frame. -/
def Lane.finalEnd (stopping : Bool) (l : Lane) : Lane :=
  match l.mode with
  | .off => l
  | .waiting => if stopping then { l with inBuild := none } else l
  | .onAir =>
    if l.stop = .none then { l with onLine := none, inBuild := if stopping then none else l.inBuild }
    else l.actOnStop

/-- A lane at a slip (R16): an ON_AIR lane's frame in build and a WAITING lane's join frame are discarded. -/
def Lane.slipped (l : Lane) : Lane := { l with inBuild := none }

/-! ### LANE ON, LANE OFF and STOP AIR on a lane (R11, R13, R14) -/

/-- LANE ON on a named lane (R11). -/
def Lane.switchOn (l : Lane) : Lane :=
  match l.mode with
  | .off => { l with mode := .waiting }
  | .waiting => l
  | .onAir => if l.stop = .toOff then { l with stop := .toWaiting } else l

/-- LANE OFF on a named lane (R13). -/
def Lane.switchOff (l : Lane) : Lane :=
  match l.mode with
  | .off => l
  | .waiting => l.cleared true
  | .onAir => if l.onLine.isSome then { l with stop := .toOff } else l.cleared true

/-- STOP AIR on a lane (R14). -/
def Lane.stopAir (l : Lane) : Lane :=
  match l.mode with
  | .off => l
  | .waiting => { l with inBuild := none }
  | .onAir =>
    if l.onLine.isSome then (if l.stop = .none then { l with stop := .toWaiting } else l)
    else l.cleared (l.stop == .toOff)

end Sys2Proof.Machine
end

