-- ==== Sys2Proof/Machine/Timebase.lean ====
section
/-! DEFINITION. The timebase and the SYNC line (07_cycle_timing_and_site_synchronisation.md): build instants, line starts, cycle starts, final frame
ends, START AIR and STOP AIR, the master's pulses, and the follower. -/

namespace Sys2Proof.Machine

/-! ### Build instants (R7, R114, R115) -/

/-- The counts of the next frame; they start from 0 at the first build instant after STOPPED (R114). -/
def Timebase.nextCounts (b : Timebase) : Counts := b.counts.getD { number := 0, position := 0, cycle := 0 }

/-- The frame that a build instant gives the lanes, with its line start (R115). -/
def Timebase.nextFrame (b : Timebase) (start : Micros) : LineFrame :=
  { number := b.nextCounts.number, position := b.nextCounts.position, start := start, cycle := b.nextCounts.cycle }

/-- The counts advance at a build instant: number and position at every one, the cycle count at one of position 0 (R114). -/
def Counts.advance (c : Counts) : Counts :=
  { number := c.number + 1, position := c.position + 1, cycle := if c.position = 0 then c.cycle + 1 else c.cycle }

/-- The timebase produces the build instant of the next frame, whose line start is `start` (R114). -/
def Timebase.produce (b : Timebase) (start : Micros) : Timebase :=
  { b with counts := some b.nextCounts.advance, built := some (b.nextFrame start) }

/-- An early build at a cycle start `start`: the frame takes position 0 (R117, R121, R124); every lane acts on its build instant. -/
def State.earlyBuildAt (s : State) (start : Micros) (order : List LaneNo) : State :=
  let b := { s.timebase with earlyFor := none, counts := some { s.timebase.nextCounts with position := 0 } }
  let s' := s.putTimebase (b.produce start)
  (orderOf order).foldl (fun s n => s.laneBuild (b.nextFrame start) n) s'

/-! ### Entering STOPPED, final frame end (R115, R118) -/

/-- The timebase enters STOPPED: counts, reference, expected pulses, miss count and any realignment are cleared, and no scheduled pulse is
driven; a pulse being driven is completed (R118). R118 does not clear the divisor counter, which stays, the model's choice (assumption 36). -/
def State.enterStopped (s : State) : State :=
  (s.putTimebase { Timebase.reset with divisorCount := s.timebase.divisorCount }).putSync { s.sync with pulseAt := none }

/-- The end of the frame on line with no line start following (R115). At a pending stop the timebase then enters STOPPED. -/
def State.endFinalFrame (s : State) : State :=
  let s' := (s.mapLanes (Lane.finalEnd s.timebase.stopPending)).putTimebase { s.timebase with onLine := none, lastOfGrid := false }
  if s.timebase.stopPending then s'.enterStopped else s'

/-- FINAL_FRAME_END (R115): at the end of the frame on line, when no line start follows it. -/
def State.finalFrameEnd (s : State) : State :=
  match s.timebase.onLine with
  | some f => if s.timebase.lastOfGrid then (s.clockTo (f.start + micros Config.frameMicros)).endFinalFrame else s
  | none => s

/-! ### Line start and cycle start (R9, R71, R107, R115, R116, R119) -/

/-- The master's part of a cycle start: at divisor count 0 a pulse is scheduled, and the count goes up and wraps (R119). -/
def State.masterCycleStart (s : State) (start : Micros) : State :=
  if s.tables.site.role = .master then
    let s := if s.timebase.divisorCount = 0 then
        s.putSync { s.sync with pulseAt := some (start + micros (s.tables.site.outOffset * Config.bitMicros)) }
      else s
    s.putTimebase { s.timebase with
      divisorCount := if s.tables.site.divisor ≤ s.timebase.divisorCount + 1 then 0 else s.timebase.divisorCount + 1 }
  else s

/-- A cycle start (R115): the line start of a frame at position 0 while the timebase is RUNNING or HOLDOVER reaches the hold count, the cue
lines and the master. -/
def State.cycleStart (s : State) (f : LineFrame) : State :=
  if f.position = 0 ∧ s.timebase.mode.onGrid = true then
    ((s.putHold (s.hold.cycleStart s.tables.site.holdLimit)).cueCycleStart f.start).masterCycleStart f.start
  else s

/-- Every lane acts on a line start, in the order given. A hold firing of its cycle start falls after the first `k` lanes and before the others, or,
with none, in a step of its own (R72, assumption 18). -/
def State.lanesAtLineStart (s : State) (next : LineFrame) (fire : Option Nat) (order : List LaneNo) : State :=
  match fire with
  | none => order.foldl (fun s n => s.laneLineStart next n) s
  | some k =>
    (order.drop k).foldl (fun s n => s.laneLineStart next n) ((order.take k).foldl (fun s n => s.laneLineStart next n) s).fireHold

/-- LINE_START (R9, R115, R116): the built frame's line start. The frame reference moves to it; at position 0 a cycle start is produced; then
the next frame's build instant falls and every lane acts. That the cycle start reaches the cue lines before the edges that these builds post is the
model's choice (R108, assumption 34). -/
def State.lineStart (s : State) (fire : Option Nat) (order : List LaneNo) : State :=
  match s.timebase.built with
  | none => s
  | some f =>
    let s := s.clockTo f.start
    let s := if s.timebase.lastOfGrid then s.endFinalFrame else s
    let s := s.putTimebase { s.timebase with
      reference := some { number := f.number, start := f.start }, onLine := some f, lastOfGrid := false, built := none }
    let s := s.cycleStart f
    let next := s.timebase.nextFrame (f.start + micros Config.frameMicros)
    let s := s.putTimebase (s.timebase.produce (f.start + micros Config.frameMicros))
    s.lanesAtLineStart next fire (orderOf order)

/-- EARLY_BUILD (R7): 80,000 µs before the line start of frame 0 after priming, or of a realigned cycle start. -/
def State.earlyBuild (s : State) (order : List LaneNo) : State :=
  match s.timebase.earlyFor with
  | none => s
  | some c => (s.clockTo (c - micros Config.frameMicros)).earlyBuildAt c order

/-! ### START AIR, STOP AIR on the timebase (R117, R118) -/

/-- START AIR taken (R117). The divisor counter, which R119 sets to 0 at the cycle start of frame 0, is 0 from here on, the model's choice; no
pulse differs by it (assumption 36). -/
def State.startAir (s : State) : State :=
  if s.timebase.mode = .stopped then
    match s.tables.site.role with
    | .follower => s.putTimebase { Timebase.reset with mode := .awaitSync }
    | _ => (s.putTimebase { Timebase.reset with mode := .running }).earlyBuildAt (s.clock + micros Config.frameMicros) laneNumbers
  else s

/-- STOP AIR taken, on the timebase (R118). -/
def State.stopTimebase (s : State) : State :=
  match s.timebase.mode with
  | .stopped => s
  | .awaitSync => s.enterStopped
  | .priming => s.enterStopped
  | _ =>
    if s.timebase.stopPending then s
    else if s.timebase.onLine.isSome then
      s.putTimebase { s.timebase with stopPending := true, lastOfGrid := true, built := none, earlyFor := none }
    else s.enterStopped

/-- STOP AIR taken, on the lanes and on the timebase (R14, R118). -/
def State.stopAir (s : State) : State := (s.mapLanes Lane.stopAir).stopTimebase

/-! ### The master's pulses (R119) -/

/-- MASTER_PULSE_START: the scheduled pulse begins; SYNC is driven low for one bit period. -/
def State.masterPulseStart (s : State) : State :=
  match s.sync.pulseAt with
  | none => s
  | some t => (s.clockTo t).putSync { pulseAt := none, lowUntil := some (t + micros Config.bitMicros) }

/-- MASTER_PULSE_END: SYNC is released. -/
def State.masterPulseEnd (s : State) : State :=
  match s.sync.lowUntil with
  | none => s
  | some t => (s.clockTo t).putSync { s.sync with lowUntil := none }

/-! ### The follower (R120 to R125) -/

/-- The spacing of expected pulses: one divisor of cycles. -/
def SiteEntry.period (e : SiteEntry) : Int := e.divisor * Config.cycleMicros

/-- The first instant marked by a pulse at `p` that lies at or after `p + m` (R120, R121, R124): the marked instants are
`p − 625 × input offset + 640,000 × j`. -/
def SiteEntry.firstMarked (e : SiteEntry) (p : Micros) (m : Int) : Micros :=
  let off : Int := e.inOffset * Config.bitMicros
  p + micros (Config.cycleMicros * ceilDiv (m + off) Config.cycleMicros - off)

/-- A pulse at `p` lies in the window of the expected pulse `e` (R120). -/
def inWindow (p e : Micros) : Bool := decide (-(Config.windowMicros : Int) ≤ sdiff p e) && decide (sdiff p e ≤ Config.windowMicros)

/-- The expected pulse, at or a whole number of periods after `e`, in whose window a pulse at `p` lies (R120). -/
def expectedFor (p e : Micros) (period : Int) : Option Micros :=
  let d := sdiff p e + Config.windowMicros
  if decide (0 ≤ d) && decide (d % period ≤ 2 * Config.windowMicros) then some (e + micros (d / period * period)) else none

/-- A slip found at a pulse at `p` (R124, R125): SYNC_SLIP latches, the timebase is RUNNING with miss count 0 and its expected pulses set from
`p`; frames in build are discarded; the frame on line, if any, is the last of the old grid; the early build of the realigned cycle start
is to come. -/
def State.slip (s : State) (p : Micros) : State :=
  let s := s.latch .syncSlip
  let earliest : Int := match s.timebase.onLine with
    | some f => max Config.frameMicros (sdiff (f.start + micros Config.frameMicros) p)
    | none => Config.frameMicros
  (s.mapLanes Lane.slipped).putTimebase { s.timebase with
    mode := .running, misses := 0, met := false, expected := some (p + micros s.tables.site.period), built := none,
    lastOfGrid := s.timebase.onLine.isSome, earlyFor := some (s.tables.site.firstMarked p earliest) }

/-- A pulse taken as a priming pulse (R121). -/
def State.prime (s : State) (p : Micros) : State :=
  s.putTimebase { s.timebase with mode := .priming, expected := some (p + micros s.tables.site.period), met := false }

/-- A pulse received at `p` by a FOLLOWER (R121 to R124). -/
def State.takePulse (s : State) (p : Micros) : State :=
  match s.timebase.mode with
  | .stopped => s
  | .awaitSync => s.prime p
  | .priming =>
    match s.timebase.expected with
    | some e =>
      if inWindow p e then
        s.putTimebase { s.timebase with
          mode := .running, expected := some (p + micros s.tables.site.period), met := false, misses := 0,
          earlyFor := some (s.tables.site.firstMarked p Config.frameMicros) }
      else s.prime p
    | none => s.prime p
  | _ =>
    match s.timebase.expected.bind (fun e => expectedFor p e s.tables.site.period) with
    | some e => s.putTimebase { s.timebase with mode := .running, misses := 0, expected := some e, met := true }
    | none => s.slip p

/-- A part in the FOLLOWER role watches SYNC, except while a stop is pending (R120). -/
def State.watchesSync (s : State) : Bool := s.tables.site.role == .follower && !s.timebase.stopPending

/-- SYNC_PULSE (R120). -/
def State.syncPulse (s : State) (t : Micros) : State :=
  let s := s.clockAt t
  if s.watchesSync then s.takePulse s.clock else s

/-- The expected pulse whose window closes next without one: the expected pulse, or the one after it when it has been met (R120, R122). -/
def State.nextUnmet (s : State) : Option Micros :=
  s.timebase.expected.map (fun e => if s.timebase.met then e + micros s.tables.site.period else e)

/-- SYNC_PULSE_MISSED (R122, R123): a window closes with no pulse. In RUNNING the miss count goes up; in HOLDOVER misses are not counted; in
PRIMING no miss is counted and the next pulse primes afresh (R121). -/
def State.syncPulseMissed (s : State) : State :=
  if s.watchesSync then
    match s.nextUnmet with
    | none => s
    | some e =>
      let s := s.clockTo (e + micros (Config.windowMicros + 1))
      let next := some (e + micros s.tables.site.period)
      match s.timebase.mode with
      | .running => s.putTimebase { s.timebase with
          expected := next, met := false, misses := if s.timebase.misses < 3 then s.timebase.misses + 1 else 3 }
      | .holdover => s.putTimebase { s.timebase with expected := next, met := false }
      | .priming => s.putTimebase { s.timebase with expected := none, met := false }
      | _ => s
  else s

/-- SYNC_LOST (R122): at the third miss in a row the timebase goes to HOLDOVER and SYNC_LOST latches. -/
def State.syncLost (s : State) : State :=
  if s.watchesSync && s.timebase.mode == .running && decide (3 ≤ s.timebase.misses) then
    (s.putTimebase { s.timebase with mode := .holdover }).latch .syncLost
  else s

/-! ### The commands of the air timing -/

/-- What EARLY_BUILD does. -/
def execEarlyBuild (order : List LaneNo) (s : State) : Host.Outcome State Fault Refusal := .next (s.earlyBuild order)

/-- What LINE_START does. -/
def execLineStart (fire : Option Nat) (order : List LaneNo) (s : State) : Host.Outcome State Fault Refusal :=
  .next (s.lineStart fire order)

/-- What CEILING_END does: the ceilings of lane `n`'s levels are examined at the lane's last built frame (R68). Inside a build the same
examination is step 2. -/
def execCeilingEnd (n : LaneNo) (s : State) : Host.Outcome State Fault Refusal :=
  let kept := removeCeilings s.lanes[n].lastBuilt s.lanes[n].stack
  .next ((s.modLane n (fun l => { l with stack := kept })).latchIf (decide (kept.length < s.lanes[n].stack.length)) .ceilingEnd)

/-- What HOLD_FIRES does (R71). -/
def execHoldFires (s : State) : Host.Outcome State Fault Refusal := .next s.fireHold

/-- What FINAL_FRAME_END does. -/
def execFinalFrameEnd (s : State) : Host.Outcome State Fault Refusal := .next s.finalFrameEnd

/-- What SYNC_PULSE does. -/
def execSyncPulse (t : Micros) (s : State) : Host.Outcome State Fault Refusal := .next (s.syncPulse t)

/-- What SYNC_PULSE_MISSED does. -/
def execSyncPulseMissed (s : State) : Host.Outcome State Fault Refusal := .next s.syncPulseMissed

/-- What SYNC_LOST does. -/
def execSyncLost (s : State) : Host.Outcome State Fault Refusal := .next s.syncLost

/-- What MASTER_PULSE_START does. -/
def execMasterPulseStart (s : State) : Host.Outcome State Fault Refusal := .next s.masterPulseStart

/-- What MASTER_PULSE_END does. -/
def execMasterPulseEnd (s : State) : Host.Outcome State Fault Refusal := .next s.masterPulseEnd

end Sys2Proof.Machine
end

