-- ==== Sys2Proof/Machine/Cues.lean ====
section
/-! DEFINITION. The cue unit (05_cues_and_their_alignment.md): cue messages, the recent-cue list, lane admission, alignment, and the handing over of
records. -/

namespace Sys2Proof.Machine

/-- A CUE message with the two values of its carrying frame (R79, R80). -/
structure CueMsg where
  number : Byte
  kind : Option TransKind
  mask : Half
  effective : FeedNo
  carrier : FeedNo
  syncTime : Micros
deriving DecidableEq, Repr

/-- The transition kind of a cue kind code; none for an unknown one (R79, R184). -/
def TransKind.ofCode? (b : Byte) : Option TransKind :=
  if b = 1 then some .bulletinStart else if b = 2 then some .bulletinEnd else if b = 3 then some .urgentStart
  else if b = 4 then some .urgentEnd else none

/-- The CUE that a 6-byte body gives (R79, R184): the upper 4 bits of the last two bytes are ignored (R183). -/
def CueMsg.parse (body : List Byte) (carrier : FeedNo) (syncTime : Micros) : Option CueMsg :=
  if body.length = 6 then
    some { number := byteAt body 0, kind := TransKind.ofCode? (byteAt body 1), mask := halfAt body 2,
           effective := frameNumber (halfAt body 4), carrier := carrier, syncTime := syncTime }
  else none

/-- The kind starts a level (R87). -/
def TransKind.isStart : TransKind → Bool
  | .bulletinStart => true
  | .bulletinEnd => false
  | .urgentStart => true
  | .urgentEnd => false

/-- The level kind of a transition kind. -/
def TransKind.level : TransKind → LevelKind
  | .bulletinStart => .bulletin
  | .bulletinEnd => .bulletin
  | .urgentStart => .urgent
  | .urgentEnd => .urgent

/-- The START of the same level kind (R93). -/
def TransKind.startOf : TransKind → TransKind
  | .bulletinStart => .bulletinStart
  | .bulletinEnd => .bulletinStart
  | .urgentStart => .urgentStart
  | .urgentEnd => .urgentStart

/-! ### The recent-cue list (R81, R82) -/

/-- A number joins the recent-cue list as its newest member; from a full list the oldest goes (R82). -/
def joinRecent (l : List Byte) (n : Byte) : List Byte := (if l.length < 32 then l else l.drop 1) ++ [n]

/-! ### Admission (R84) -/

/-- A cue for the zones of `mask` applies to lane `n` (R84). -/
def State.admits (s : State) (mask : Half) (n : LaneNo) : Bool :=
  let e := s.tables.lane[n]
  s.lanes[n].mode == .onAir && e.traffic && (mask.getLsbD e.zone.val || (mask &&& e.linked) != 0)

/-! ### Alignment (R87 to R95) -/

/-- The sync time of feed frame F (R88). -/
def feedTime (carrier effective : FeedNo) (syncTime : Micros) : Micros :=
  syncTime + micros (sdiff effective carrier * Config.feedFrameMicros)

/-- The audio time of a cue for a lane (R89). -/
def audioTime (e : LaneEntry) (tF : Micros) : Micros := tF + micros (1000 * e.da)

/-- The line target t_line (R89). -/
def lineTarget (e : LaneEntry) (kind : TransKind) (tF : Micros) : Micros :=
  if kind.isStart then tF + micros (1000 * ((e.da : Int) - e.dd - e.lead))
  else tF + micros (1000 * ((e.da : Int) - e.dd + e.trail))

/-- The target of R90, before the clamps. -/
def rawTarget (kind : TransKind) (ref : FrameRef) (tLine : Micros) : AirNo :=
  let d := sdiff tLine ref.start
  ref.number + BitVec.ofInt 16
    (if kind.isStart then floorDiv d Config.frameMicros else ceilDiv d Config.frameMicros)

/-- The frame that the minimum length is counted from (R93): the last START of the kind in the schedule, else the entry frame of the level. -/
def minimumFrom (kind : TransKind) (l : Lane) : Option AirNo :=
  match (l.schedule.filter (fun r => r.kind == kind.startOf)).getLast? with
  | some r => some r.target
  | none => entryFrameOf l.stack kind.level

/-- The late clamp (R92): a target before the next frame not yet built becomes it. -/
def lateClamp (k n : AirNo) : AirNo := if before k n then n else k

/-- The minimum length (R93): an END is raised to 8 frames after its START. -/
def minimumClamp (kind : TransKind) (l : Lane) (k : AirNo) : AirNo :=
  if kind.isStart then k
  else match minimumFrom kind l with
    | some f => if before k (f + 8) then f + 8 else k
    | none => k

/-- The bound (R94): at most 575 frames beyond n for an END, 567 for a START. -/
def boundClamp (kind : TransKind) (k n : AirNo) : AirNo :=
  let limit : Int := if kind.isStart then 567 else 575
  if limit < sdiff k n then n + BitVec.ofInt 16 limit else k

/-- The record that a cue gives for a lane, against a frame reference (R87 to R95). -/
def alignRecord (e : LaneEntry) (l : Lane) (ref : FrameRef) (kind : TransKind) (c : CueMsg) : Transition :=
  let tF := feedTime c.carrier c.effective c.syncTime
  let raw := rawTarget kind ref (lineTarget e kind tF)
  let n := ref.number + 2
  { kind := kind
    target := boundClamp kind (minimumClamp kind l (lateClamp raw n)) n
    audio := audioTime e tF
    late := before raw n }

/-! ### Handing over (R86, R95) -/

/-- A state with the choices still to be taken inside a step (`Arrival.prompt`). -/
structure Chosen where
  state : State
  prompt : List Bool
deriving DecidableEq, Repr

/-- Hand a record to lane `n`'s bulletin unit: it is taken at once, or is on its way (R86, R95). -/
def Chosen.handOver (c : Chosen) (n : LaneNo) (r : Transition) : Chosen :=
  { state := if c.prompt.headD false then c.state.takeRecord n r
      else c.state.modLane n (fun l => { l with records := l.records ++ [r] })
    prompt := c.prompt.tail }

/-- A cue taken for lane `n` (R84, R92, R95). Without a frame reference no lane is ON_AIR and nothing is computed (R116). -/
def Chosen.cueLane (c : Chosen) (kind : TransKind) (cue : CueMsg) (n : LaneNo) : Chosen :=
  match c.state.timebase.reference with
  | some ref =>
    if c.state.admits cue.mask n then
      let r := alignRecord c.state.tables.lane[n] c.state.lanes[n] ref kind cue
      { c with state := c.state.latchIf r.late .cueLate }.handOver n r
    else c
  | none => c

/-- A CUE reaches the cue unit (R82): an unknown kind and a number on the recent-cue list are ignored; else the number joins the list and the
cue is fanned out to the lanes. Their order is open (R86); number order is the model's choice, seen in the order of two lanes' alerts (assumption
37). -/
def Chosen.takeCue (c : Chosen) (cue : CueMsg) : Chosen :=
  match cue.kind with
  | none => c
  | some kind =>
    if c.state.recentCues.contains cue.number then c
    else laneNumbers.foldl (fun c n => c.cueLane kind cue n)
      { c with state := c.state.putRecentCues (joinRecent c.state.recentCues cue.number) }

/-- RECORD_ARRIVES (R61): the `i`-th record on its way to lane `n` reaches its bulletin unit. -/
def State.recordArrives (s : State) (n : LaneNo) (i : Nat) : State :=
  match s.lanes[n].records[i]? with
  | none => s
  | some r => (s.modLane n (fun l => { l with records := l.records.eraseIdx i })).takeRecord n r

/-- What RECORD_ARRIVES does. -/
def execRecordArrives (n : LaneNo) (i : Nat) (s : State) : Host.Outcome State Fault Refusal := .next (s.recordArrives n i)

end Sys2Proof.Machine
end

