-- ==== Sys2Proof/Machine/FeedFrames.lean ====
section
/-! DEFINITION. The feed frame as received and as forwarded (R129 to R132, R184, R191). -/

namespace Sys2Proof

open Machine

/-- The bytes of a frame that its check covers (R191). -/
def FeedFrame.covered (f : FeedFrame) : List Byte := be16 f.word ++ f.anc

/-- A frame is good: format 1, and its check is that of its frame word and field (R131). -/
def FeedFrame.good (f : FeedFrame) : Bool := frameFormat f.word == 1 && f.check == crc16 f.covered

/-- The bytes of a frame behind its sync pattern, the last byte of its check left out. -/
def FeedFrame.body (f : FeedFrame) : List Byte := be16 f.word ++ f.audio ++ f.anc ++ (be16 f.check).take 1

/-- The sync pattern stands in a list of bytes. -/
def holdsPattern : List Byte → Bool
  | [] => false
  | b :: rest => (b :: rest).take 3 == syncPattern || holdsPattern rest

/-- A frame that can complete: its parts have their lengths, and no sync pattern completes before its 551st byte, which would have truncated it
(R130). -/
def FeedFrame.arrivable (f : FeedFrame) : Bool := f.audio.length == 480 && f.anc.length == 64 && !holdsPattern f.body

/-- A pattern's third byte is the frame's 551st byte: it begins no frame, but it is seen (R129, R130). -/
def FeedFrame.endsInPattern (f : FeedFrame) : Bool := f.anc.drop 63 ++ be16 f.check == syncPattern

/-- The frame as it goes out when its field went through the parse: the check is that of the forwarded field (R132). -/
def FeedFrame.withField (f : FeedFrame) (field : List Byte) : FeedFrame :=
  { f with anc := field, check := crc16 (be16 f.word ++ field) }

end Sys2Proof
end

