-- ==== Sys2Proof/Machine/Operands.lean ====
section
/-! DEFINITION. The argument forms of orders (R146, R185), the refusals they share (R147, R148), and the taking of an order (R145). -/

namespace Sys2Proof.Machine

/-- The first condition of a list that holds gives the result; the list is in the order of R147. -/
def firstRefusal : List (Bool × Result) → Option Result
  | [] => none
  | (b, r) :: rest => if b then some r else firstRefusal rest

/-- An order refused changes nothing but for its answer (R147); one that passes its checks is carried out. -/
def State.unlessRefused (s : State) (r : Reply) (refusal : Option Result) (effect : State) : State :=
  match refusal with
  | some result => s.reply r result []
  | none => effect

/-- How the order unit takes an order with this target (R135, R145): an order to 255 is executed and not answered; one to the part's site address
is executed and answered, but not in listen-only; any other is not taken. -/
def State.recipient (s : State) (target : Byte) : Option Bool :=
  if target = 255 then some false else if s.listenOnly then none else if target = s.siteAddress then some true else none

/-- An order command: at its instant the order, if it is for this part, is carried out (R145). -/
def State.takeOrder (s : State) (o : OrderMsg) (run : List Byte → Reply → State → State) : State :=
  let s := s.clockAt o.time
  match s.recipient o.target with
  | none => s
  | some answered => run o.args { tag := o.tag, answered := answered } s

/-! ### Sets (R183, R185) -/

/-- The table set of two bytes: bit t for table t. -/
def tableSet (args : List Byte) : Half := halfAt args 0

/-- A table set names only tables 1 to 8: bits 0 and 10 to 15 are outside the members, and T9 has no protect flag (R166, R185). -/
def tableSetOk (v : Half) : Bool := v &&& 0xFE01 == 0

/-- The protect flags, bit t − 1 for table t, that a table set names. -/
def namedFlags (v : Half) : BitVec 8 := v.extractLsb' 1 8

/-- A lane set names only lanes 0 to 3 (R146, R185). -/
def laneSetOk (v : Byte) : Bool := v &&& 0xF0 == 0

/-- Lane `n` is named by a lane set. -/
def laneNamed (v : Byte) (n : LaneNo) : Bool := v.getLsbD n.val

/-- An event set names only the 13 latches (R146, R185). -/
def eventSetOk (v : Half) : Bool := v &&& 0xE000 == 0

/-- The latches that an event set names. -/
def eventSet (args : List Byte) : BitVec 13 := (halfAt args 0).extractLsb' 0 13

/-! ### Shared refusals (R146, R148) -/

/-- MALFORMED, for an order without arguments (R146). -/
def refuseArgs (args : List Byte) : Bool × Result := (!args.isEmpty, .malformed)

/-- MALFORMED, for an order whose arguments are exactly `n` bytes (R146). -/
def refuseLength (args : List Byte) (n : Nat) : Bool × Result := (args.length != n, .malformed)

/-- PRESET_BUSY (R148). -/
def State.refuseBusy (s : State) : Bool × Result := (s.presetBusy, .presetBusy)

/-- NO_PRESET: the memory condition is SILENT (R148, R175). -/
def State.refuseSilent (s : State) : Bool × Result := (s.preset.condition == .silent, .noPreset)

end Sys2Proof.Machine
end

