-- ==== Sys2Proof/Machine/AirOrders.lean ====
section
/-! DEFINITION. LANE ON, LANE OFF, START AIR and STOP AIR as orders (R11, R13, R14, R117, R118, R148). -/

namespace Sys2Proof.Machine

/-- Some named lane meets a condition. -/
def anyNamed (v : Byte) (p : LaneNo → Bool) : Bool := laneNumbers.any (fun n => laneNamed v n && p n)

/-- Change the named lanes. -/
def State.mapNamed (s : State) (v : Byte) (f : Lane → Lane) : State :=
  s.putLanes (Vector.ofFn (fun n : Fin 4 => if laneNamed v n then f s.lanes[n] else s.lanes[n]))

/-- A named lane that is OFF has station code 0 (R11). -/
def State.unsetLane (s : State) (n : LaneNo) : Bool := s.lanes[n].mode == .off && s.tables.lane[n].station == 0

/-- The checks of LANE ON (R11, R146). -/
def State.laneOnRefusal (s : State) (args : List Byte) : Option Result :=
  firstRefusal [refuseLength args 1, (!laneSetOk (byteAt args 0), .range), (anyNamed (byteAt args 0) s.unsetLane, .unset)]

/-- LANE ON taken. -/
def orderLaneOn (args : List Byte) (r : Reply) (s : State) : State :=
  s.unlessRefused r (s.laneOnRefusal args) ((s.mapNamed (byteAt args 0) Lane.switchOn).reply r .done [])

/-- The checks of LANE OFF (R146, R148). -/
def State.laneOffRefusal (s : State) (args : List Byte) : Option Result :=
  firstRefusal [refuseLength args 1, (!laneSetOk (byteAt args 0), .range), (anyNamed (byteAt args 0) s.urgentOn, .urgentActive)]

/-- LANE OFF taken. -/
def orderLaneOff (args : List Byte) (r : Reply) (s : State) : State :=
  s.unlessRefused r (s.laneOffRefusal args) ((s.mapNamed (byteAt args 0) Lane.switchOff).reply r .done [])

/-- START AIR taken: refused by no state (R117, R148). -/
def orderStartAir (args : List Byte) (r : Reply) (s : State) : State :=
  s.unlessRefused r (firstRefusal [refuseArgs args]) (s.startAir.reply r .done [])

/-- The checks of STOP AIR (R148). -/
def State.stopAirRefusal (s : State) (args : List Byte) : Option Result :=
  firstRefusal [refuseArgs args, (laneNumbers.any s.urgentOn, .urgentActive)]

/-- STOP AIR taken. -/
def orderStopAir (args : List Byte) (r : Reply) (s : State) : State :=
  s.unlessRefused r (s.stopAirRefusal args) (s.stopAir.reply r .done [])

/-- What LANE ON does. -/
def execLaneOn (o : OrderMsg) (s : State) : Host.Outcome State Fault Refusal := .next (s.takeOrder o orderLaneOn)

/-- What LANE OFF does. -/
def execLaneOff (o : OrderMsg) (s : State) : Host.Outcome State Fault Refusal := .next (s.takeOrder o orderLaneOff)

/-- What START AIR does. -/
def execStartAir (o : OrderMsg) (s : State) : Host.Outcome State Fault Refusal := .next (s.takeOrder o orderStartAir)

/-- What STOP AIR does. -/
def execStopAir (o : OrderMsg) (s : State) : Host.Outcome State Fault Refusal := .next (s.takeOrder o orderStopAir)

end Sys2Proof.Machine
end

