-- ==== Sys2Proof/Machine/TableOrders.lean ====
section
/-! DEFINITION. POLL, READ TABLE and WRITE TABLE (R156 to R159), the event and marker orders (R160 to R164), and the protection orders (R165 to
R169). -/

namespace Sys2Proof.Machine

/-! ### POLL (R156) -/

/-- POLL taken. -/
def orderPoll (args : List Byte) (r : Reply) (s : State) : State :=
  s.unlessRefused r (firstRefusal [refuseArgs args]) (s.reply r .done [])

/-! ### READ TABLE (R157) -/

/-- Table argument present and naming no table 1 to 9 (R147, step 2). -/
def noSuchTable (args : List Byte) : Bool := !args.isEmpty && (decide ((byteAt args 0).toNat < 1) || decide (9 < (byteAt args 0).toNat))

/-- The checks of a READ TABLE, in the order of R147. -/
def readRefusal (args : List Byte) : Option Result :=
  firstRefusal [(noSuchTable args, .noSuchTable), refuseLength args 3,
    (decide (entryCount (byteAt args 0).toNat ≤ (byteAt args 1).toNat) || byteAt args 2 == 0, .range)]

/-- How many entries a READ TABLE returns: the number asked, but none past the table's last entry and no more than fit within 52 bytes
(R157). -/
def returnedCount (t first count : Nat) : Nat := min count (min (entryCount t - first) (52 / entrySize t))

/-- The data of a READ TABLE answer (R157, R185). -/
def State.readData (s : State) (t first count : Nat) : List Byte :=
  let n := returnedCount t first count
  [byteOf t, byteOf first, byteOf n] ++ (List.range n).flatMap (fun j => s.tables.entryBytes s.titles t (first + j))

/-- READ TABLE taken. -/
def orderReadTable (args : List Byte) (r : Reply) (s : State) : State :=
  s.unlessRefused r (readRefusal args)
    (s.reply r .done (s.readData (byteAt args 0).toNat (byteAt args 1).toNat (byteAt args 2).toNat))

/-! ### WRITE TABLE (R158, R159) -/

/-- The arguments of a WRITE TABLE. -/
structure WriteArgs where
  table : Nat
  first : Nat
  count : Nat
  entries : List (List Byte)
deriving DecidableEq, Repr

/-- Table, first entry, count, and the entries that follow (R185). -/
def WriteArgs.read (args : List Byte) : WriteArgs :=
  let t := (byteAt args 0).toNat
  let n := (byteAt args 2).toNat
  { table := t, first := (byteAt args 1).toNat, count := n, entries := cutEntries (entrySize t) n (args.drop 3) }

/-- Fewer than three leading arguments, or entry bytes other than count × the entry size (R146). -/
def writeMalformed (args : List Byte) : Bool :=
  decide (args.length < 3) || (args.length - 3 != (byteAt args 2).toNat * entrySize (byteAt args 0).toNat)

/-- The lane whose list holds entry `i` of T2, T3 or T4 (R18). -/
def listLane (t i : Nat) : Nat := if t = 2 then i / 32 else if t = 3 then i / 8 else i / 4

/-- Lane number `i` holds URGENT. -/
def State.urgentOnNat (s : State) (i : Nat) : Bool := if h : i < 4 then s.urgentOn ⟨i, h⟩ else false

/-- A write of table `t` would change a sync field while the timebase is not STOPPED (R126, R148). -/
def State.writeOnAir (s : State) (w : WriteArgs) : Bool :=
  w.table == 8 && s.timebase.mode != .stopped &&
    w.entries.any (fun l => match SiteEntry.parse l with
      | some e => !e.sameSync s.tables.site
      | none => false)

/-- A write of entry `i` of table `t` that an URGENT level of its lane forbids (R148): any entry of its lists, and a list length of its LANE
entry other than the one held. -/
def State.urgentEntry (s : State) (t i : Nat) (l : List Byte) : Bool :=
  match t with
  | 1 => s.urgentOnNat i && (match LaneEntry.parse l, s.tables.lane[i]? with
    | some e, some old => e.regularLen != old.regularLen || e.bulletinLen != old.bulletinLen || e.urgentLen != old.urgentLen
    | _, _ => false)
  | 2 => s.urgentOnNat (listLane 2 i)
  | 3 => s.urgentOnNat (listLane 3 i)
  | 4 => s.urgentOnNat (listLane 4 i)
  | _ => false

/-- A write of entry `i` of T1 that gives a frozen lane another station code or zone (R148, R170). -/
def State.frozenEntry (s : State) (t i : Nat) (l : List Byte) : Bool :=
  match t with
  | 1 => match LaneEntry.parse l, s.frozen[i]? with
    | some e, some (some f) => e.station != f.station || e.zone != f.zone
    | _, _ => false
  | _ => false

/-- Some entry of the write meets a condition, each with its own index. -/
def WriteArgs.anyEntry (w : WriteArgs) (p : Nat → List Byte → Bool) : Bool :=
  (w.entries.zipIdx w.first).any (fun e => p e.2 e.1)

/-- The checks of a WRITE TABLE, in the order of R147: a write fails as a whole with the first result any of its entries meets. -/
def State.writeRefusal (s : State) (args : List Byte) : Option Result :=
  let w := WriteArgs.read args
  firstRefusal [
    (noSuchTable args, .noSuchTable),
    (writeMalformed args, .malformed),
    (w.table == 9, .readOnly),
    s.refuseBusy,
    (s.protectFlag w.table, .isProtected),
    (w.count == 0 || decide (entryCount w.table < w.first + w.count) || w.entries.any (fun l => !entryOk w.table l), .range),
    (s.writeOnAir w, .onAir),
    (w.anyEntry (s.urgentEntry w.table), .urgentActive),
    (w.anyEntry (s.frozenEntry w.table), .frozen)]

/-- All entries of a write stored at once (R159). -/
def State.storeWrite (s : State) (w : WriteArgs) : State := s.changeTables (s.tables.storeAll w.table w.first w.entries)

/-- WRITE TABLE taken. -/
def orderWriteTable (args : List Byte) (r : Reply) (s : State) : State :=
  s.unlessRefused r (s.writeRefusal args) ((s.storeWrite (WriteArgs.read args)).reply r .done [])

/-! ### Events, marker, restart (R160 to R164) -/

/-- READ EVENTS taken (R160). -/
def orderReadEvents (args : List Byte) (r : Reply) (s : State) : State :=
  s.unlessRefused r (firstRefusal [refuseArgs args]) (s.reply r .done (eventBytes s.answers.latches ++ eventBytes s.answers.mask))

/-- Clear the named latches; naming ANSWER_LOST also sets the lost count to 0 (R161). -/
def AnswerUnit.clear (u : AnswerUnit) (set : BitVec 13) : AnswerUnit :=
  { u with latches := u.latches &&& ~~~set, lost := if set.getLsbD Event.answerLost.number then 0 else u.lost }

/-- The checks of an order whose argument is an event set (R146, R183). -/
def eventSetRefusal (args : List Byte) : Option Result :=
  firstRefusal [refuseLength args 2, (!eventSetOk (halfAt args 0), .range)]

/-- CLEAR EVENTS taken (R161). -/
def orderClearEvents (args : List Byte) (r : Reply) (s : State) : State :=
  s.unlessRefused r (eventSetRefusal args) ((s.putAnswers (s.answers.clear (eventSet args))).reply r .done [])

/-- SET ALERT MASK taken (R162). -/
def orderSetAlertMask (args : List Byte) (r : Reply) (s : State) : State :=
  s.unlessRefused r (eventSetRefusal args) ((s.putAnswers { s.answers with mask := eventSet args }).reply r .done [])

/-- SET MARKER taken (R163). -/
def orderSetMarker (args : List Byte) (r : Reply) (s : State) : State :=
  s.unlessRefused r (firstRefusal [refuseArgs args]) ((s.putAnswers { s.answers with marker := true }).reply r .done [])

/-- RESTART taken (R164): a restart becomes pending 200,000 µs after the order; one already pending keeps its instant. Its DONE is marked, since
its insertion is the restart's first instant. -/
def orderRestart (args : List Byte) (r : Reply) (s : State) : State :=
  s.unlessRefused r (firstRefusal [refuseArgs args])
    (let s' := s.putAnswers { s.answers with
        restartAt := match s.answers.restartAt with
          | some t => some t
          | none => some (s.clock + micros Config.restartMicros) }
     if r.answered then s'.queueAnswer { tag := r.tag, result := .done, data := [], ofRestart := true } else s')

/-! ### Protection (R166 to R169) -/

/-- The checks of PROTECT TABLES and UNPROTECT TABLES (R166). -/
def State.protectRefusal (s : State) (args : List Byte) : Option Result :=
  firstRefusal [refuseLength args 2, s.refuseBusy, (s.protect.lock, .locked), (!tableSetOk (tableSet args), .range)]

/-- PROTECT TABLES taken. -/
def orderProtect (args : List Byte) (r : Reply) (s : State) : State :=
  s.unlessRefused r (s.protectRefusal args)
    ((s.putProtect { s.protect with flags := s.protect.flags ||| namedFlags (tableSet args) }).reply r .done [])

/-- UNPROTECT TABLES taken. -/
def orderUnprotect (args : List Byte) (r : Reply) (s : State) : State :=
  s.unlessRefused r (s.protectRefusal args)
    ((s.putProtect { s.protect with flags := s.protect.flags &&& ~~~(namedFlags (tableSet args)) }).reply r .done [])

/-- The checks of SET PROTECT LOCK (R146, R168). -/
def State.setLockRefusal (s : State) (args : List Byte) : Option Result :=
  firstRefusal [(decide (1 < args.length), .malformed), s.refuseBusy, (args.length == 1 && (yesNo? (byteAt args 0)).isNone, .range)]

/-- The protection that SET PROTECT LOCK leaves: with the lock clear, all flags are first set if protect-all-first is yes; with the lock set
nothing changes (R168). -/
def Protect.setLock (p : Protect) (all : Bool) : Protect :=
  if p.lock then p else { flags := if all then 0xFF else p.flags, lock := true }

/-- SET PROTECT LOCK taken. -/
def orderSetLock (args : List Byte) (r : Reply) (s : State) : State :=
  s.unlessRefused r (s.setLockRefusal args)
    ((s.putProtect (s.protect.setLock (args.length == 1 && byteAt args 0 == 1))).reply r .done [])

/-- The checks of CLEAR PROTECT LOCK: refused LOCKED while hard-locked, that is with the lock set and GUARD active (R167, R169). -/
def State.clearLockRefusal (s : State) (args : List Byte) : Option Result :=
  firstRefusal [refuseArgs args, s.refuseBusy, (s.protect.lock && s.guard, .locked)]

/-- CLEAR PROTECT LOCK taken. -/
def orderClearLock (args : List Byte) (r : Reply) (s : State) : State :=
  s.unlessRefused r (s.clearLockRefusal args) ((s.putProtect { s.protect with lock := false }).reply r .done [])

/-! ### The commands -/

/-- What POLL does. -/
def execPoll (o : OrderMsg) (s : State) : Host.Outcome State Fault Refusal := .next (s.takeOrder o orderPoll)

/-- What READ TABLE does. -/
def execReadTable (o : OrderMsg) (s : State) : Host.Outcome State Fault Refusal := .next (s.takeOrder o orderReadTable)

/-- What WRITE TABLE does. -/
def execWriteTable (o : OrderMsg) (s : State) : Host.Outcome State Fault Refusal := .next (s.takeOrder o orderWriteTable)

/-- What READ EVENTS does. -/
def execReadEvents (o : OrderMsg) (s : State) : Host.Outcome State Fault Refusal := .next (s.takeOrder o orderReadEvents)

/-- What CLEAR EVENTS does. -/
def execClearEvents (o : OrderMsg) (s : State) : Host.Outcome State Fault Refusal := .next (s.takeOrder o orderClearEvents)

/-- What SET ALERT MASK does. -/
def execSetAlertMask (o : OrderMsg) (s : State) : Host.Outcome State Fault Refusal := .next (s.takeOrder o orderSetAlertMask)

/-- What SET MARKER does. -/
def execSetMarker (o : OrderMsg) (s : State) : Host.Outcome State Fault Refusal := .next (s.takeOrder o orderSetMarker)

/-- What RESTART does. -/
def execRestart (o : OrderMsg) (s : State) : Host.Outcome State Fault Refusal := .next (s.takeOrder o orderRestart)

/-- What PROTECT TABLES does. -/
def execProtectTables (o : OrderMsg) (s : State) : Host.Outcome State Fault Refusal := .next (s.takeOrder o orderProtect)

/-- What UNPROTECT TABLES does. -/
def execUnprotectTables (o : OrderMsg) (s : State) : Host.Outcome State Fault Refusal := .next (s.takeOrder o orderUnprotect)

/-- What SET PROTECT LOCK does. -/
def execSetProtectLock (o : OrderMsg) (s : State) : Host.Outcome State Fault Refusal := .next (s.takeOrder o orderSetLock)

/-- What CLEAR PROTECT LOCK does. -/
def execClearProtectLock (o : OrderMsg) (s : State) : Host.Outcome State Fault Refusal := .next (s.takeOrder o orderClearLock)

/-- What GUARD_LINE_CHANGE does (R167): the GUARD input takes its new level; neither lock nor flags change. -/
def execGuardLineChange (t : Micros) (active : Bool) (s : State) : Host.Outcome State Fault Refusal :=
  .next ((s.clockAt t).putGuard active)

end Sys2Proof.Machine
end

