-- ==== Sys2Proof/Machine/Preset.lean ====
section
/-! DEFINITION. The preset controller (11_preset_memory_and_start_up.md, 10_table_protection_and_lane_freeze.md): the records of the preset memory,
the placing of a table, the start-up load, SAVE PRESET, LOAD PRESET and FREEZE LANE, and what a silent memory or an abort does to them. -/

namespace Sys2Proof.Machine

/-! ### Records (R174, R188, R191) -/

/-- A record: its bytes, then their CRC-16, high byte first. -/
def sealRecord (l : List Byte) : List Byte := l ++ be16 (crc16 l)

/-- A place that was never written (R188). -/
def isErased (l : List Byte) : Bool := l.all (fun b => b == 0xFF)

/-- A place holds a record of `n` bytes whose check passes (R174). -/
def recordGood (n : Nat) (l : List Byte) : Bool := decide (l.length = n) && !isErased l && halfAt l (n - 2) == crc16 (l.take (n - 2))

/-- The header's two marks (R188). -/
def headerRecord (valid : Bool) : List Byte := sealRecord [if valid then 0xA5 else 0x00]

/-- The header is valid: good, and its mark VALID (R174). -/
def headerValid (l : List Byte) : Bool := recordGood 3 l && byteAt l 0 == 0xA5

/-- The record of table number `t` (R188). -/
def State.tableRecord (s : State) (t : Nat) : List Byte :=
  sealRecord (byteOf t :: (List.range (entryCount t)).flatMap (s.tables.entryBytes s.titles t))

/-- A table record is good: its check passes and it holds the number of its place (R174). -/
def tableRecordGood (t : Nat) (l : List Byte) : Bool :=
  recordGood (3 + entryCount t * entrySize t) l && byteAt l 0 == byteOf t

/-- The protect record (R188). -/
def flagsRecord (flags : BitVec 8) : List Byte := sealRecord [flags]

/-- The freeze record of lane `n` (R188). -/
def freezeRecord (n : LaneNo) (station : Half) (zone : Zone) : List Byte :=
  sealRecord ([byteOf n.val] ++ be16 station ++ [byteOf zone.val])

/-- A freeze place holds a record whose check passes and whose lane number is that of its place (R172). -/
def freezeRecordGood (n : LaneNo) (l : List Byte) : Bool := recordGood 6 l && byteAt l 0 == byteOf n.val

/-- The frozen values of a good freeze record (R172). A zone above 15 no rule provides for: it is a free value (assumption 8). -/
def freezeValues (l : List Byte) : Frozen := { station := halfAt l 1, zone := (zone? (byteAt l 3)).getD (Config.strayZone (byteAt l 3)) }

/-! ### Placing a table (R176, R181) -/

/-- The tables with table `t` as a good record gives it, without a range check (R177). -/
def Tables.fromRecord (T : Tables) (t : Nat) (l : List Byte) : Tables :=
  T.loadTable t (l.drop 1)

/-- What a placement keeps as it stands (R176): the sync fields while the timebase is not STOPPED, and, for a lane whose stack holds URGENT,
its list entries and list lengths. -/
def State.keepRunning (s : State) (T : Tables) : Tables :=
  { T with
    lane := Vector.ofFn (fun n : Fin 4 => if s.urgentOn n then
        { T.lane[n] with regularLen := s.tables.lane[n].regularLen, bulletinLen := s.tables.lane[n].bulletinLen,
                         urgentLen := s.tables.lane[n].urgentLen }
      else T.lane[n])
    regular := Vector.ofFn (fun i : Fin 128 => if s.urgentOnNat (i.val / 32) then s.tables.regular[i] else T.regular[i])
    bulletin := Vector.ofFn (fun i : Fin 32 => if s.urgentOnNat (i.val / 8) then s.tables.bulletin[i] else T.bulletin[i])
    urgent := Vector.ofFn (fun i : Fin 16 => if s.urgentOnNat (i.val / 4) then s.tables.urgent[i] else T.urgent[i])
    site := if s.timebase.mode = .stopped then T.site
      else { T.site with role := s.tables.site.role, divisor := s.tables.site.divisor, outOffset := s.tables.site.outOffset,
                         inOffset := s.tables.site.inOffset } }

/-- Every frozen lane's station code and zone at their frozen values (R170). -/
def State.keepFrozen (s : State) (T : Tables) : Tables :=
  { T with lane := Vector.ofFn (fun n : Fin 4 => match s.frozen[n] with
      | some f => { T.lane[n] with station := f.station, zone := f.zone }
      | none => T.lane[n]) }

/-- Place the tables `T` (R176, R181). -/
def State.place (s : State) (T : Tables) : State := s.changeTables (s.keepFrozen (s.keepRunning T))

/-- Place table `t` from its record, if that is good, else from its defaults (R177, R181). -/
def State.placeRecord (s : State) (t : Nat) (l : List Byte) : State :=
  if tableRecordGood t l then s.place (s.tables.fromRecord t l) else s.place (s.tables.copyTable Tables.default t)

/-- Place table `t` from its defaults. -/
def State.placeDefault (s : State) (t : Nat) : State := s.place (s.tables.copyTable Tables.default t)

/-- Bit t − 1 alone. -/
def tableBit (t : Nat) : BitVec 8 := (1#8) <<< (t - 1)

/-! ### Controller -/

/-- Put what the controller is doing. -/
def State.putOp (s : State) (op : PresetOp) : State := s.putPreset { s.preset with op := op }

/-- The memory responded to an access, or did not (R175). -/
def State.putCondition (s : State) (c : MemCondition) : State := s.putPreset { s.preset with condition := c }

/-- The record in the place of table `t`. -/
def PresetMemory.table (m : PresetMemory) (t : Nat) : List Byte := (m.tables[t - 1]?).getD []

/-! ### The start-up load (R176 to R178) -/

/-- The judgement of the header as the load begins (R177): the load comes from the image when the strap reads PRESET and the header is valid. -/
def State.imageValid (s : State) : Bool := s.loadSource == .preset && headerValid s.memory.header

/-- The load's header judgement, made with its first access; under PRESET a header not valid latches PRESET_FAULT (R177). -/
def State.judgeImage (s : State) (p : StartUp) : State × Bool :=
  match p.image with
  | some b => (s, b)
  | none => (s.latchIf (s.loadSource == .preset && !headerValid s.memory.header) .presetFault, s.imageValid)

/-- A step of the start-up load places table `t` (R177). T7 placed ends the driving of the cue lines as at the reset (R109). -/
def State.startUpTable (s : State) (p : StartUp) (image : Bool) (t : Nat) : State :=
  let good := image && tableRecordGood t (s.memory.table t)
  let s := s.latchIf (image && !good) .presetFault
  let s := if good then s.placeRecord t (s.memory.table t) else s.placeDefault t
  s.putPreset { op := .startUp { next := p.next + 1, image := some image,
                                 defaulted := if good then p.defaulted else p.defaulted ||| tableBit t }
                condition := .answering
                t7Placed := s.preset.t7Placed || t == 7 }

/-- The last of step 5: the protect flags (R177). The flag of every table that took its defaults stays set. -/
def State.startUpFlags (s : State) (p : StartUp) (image : Bool) : State :=
  let good := image && recordGood 3 s.memory.flags
  let s := s.latchIf (image && !good) .presetFault
  let s := s.putProtect { s.protect with flags := if good then byteAt s.memory.flags 0 ||| p.defaulted else 0xFF }
  (s.putCondition .answering).putOp (.startUp { p with next := 9, image := some image })

/-- START_UP_TABLE_PLACED (R177). -/
def State.startUpTablePlaced (s : State) : State :=
  match s.preset.op with
  | .startUp p =>
    if p.next < 8 then
      let j := s.judgeImage p
      j.1.startUpTable p j.2 (p.next + 1)
    else if p.next = 8 then
      let j := s.judgeImage p
      j.1.startUpFlags p j.2
    else s
  | _ => s

/-- The freeze record of lane `n` read at start-up is applied (R172). -/
def State.applyFreeze (s : State) (n : LaneNo) (f : Frozen) : State :=
  (s.changeTables { s.tables with lane := s.tables.lane.set n { s.tables.lane[n] with station := f.station, zone := f.zone } }).putFrozen
    (s.frozen.set n (some f))

/-- The judgement of lane `n`'s freeze place (R172). -/
def State.readFreeze (s : State) (n : LaneNo) : State :=
  let l := s.memory.freeze[n]
  if isErased l then s
  else if freezeRecordGood n l then s.applyFreeze n (freezeValues l)
  else s.latch .presetFault

/-- FREEZE_RECORD_READ (R172). The places are read in lane order, the model's choice (assumption 39). -/
def State.freezeRecordRead (s : State) : State :=
  match s.preset.op with
  | .startUp p =>
    if h : 9 ≤ p.next ∧ p.next < 13 then
      ((s.readFreeze ⟨p.next - 9, by omega⟩).putCondition .answering).putOp (.startUp { p with next := p.next + 1 })
    else s
  | _ => s

/-- The autostart's LANE ON for one lane whose on-at-start is yes: a lane whose station code is 0 stays OFF (R178). -/
def State.autoLaneOn (s : State) : State :=
  s.putLanes (Vector.ofFn (fun n : Fin 4 =>
    if s.tables.lane[n].onAtStart && !s.unsetLane n then s.lanes[n].switchOn else s.lanes[n]))

/-- The autostart (R178): START AIR and the LANE ONs, in either order. -/
def State.autostart (s : State) (airFirst : Bool) : State := if airFirst then s.startAir.autoLaneOn else s.autoLaneOn.startAir

/-- The load came from a valid image, judged when step 5 read the header, and T8's autostart is yes (R178). -/
def State.autostartActs (s : State) (p : StartUp) : Bool := p.image == some true && s.tables.site.autostart

/-- START_UP_LOAD_END (R176): IDLE, the load marker cleared, the autostart. -/
def State.startUpLoadEnd (s : State) (airFirst : Bool) : State :=
  match s.preset.op with
  | .startUp p =>
    if p.next = 13 then
      let s' := (s.putOp .idle).putAnswers { s.answers with marker := false }
      if s'.autostartActs p then s'.autostart airFirst else s'
    else s
  | _ => s

/-! ### SAVE PRESET (R180) -/

/-- The checks of SAVE PRESET. -/
def State.saveRefusal (s : State) (args : List Byte) : Option Result := firstRefusal [refuseArgs args, s.refuseBusy, s.refuseSilent]

/-- SAVE PRESET taken: the controller enters SAVING; the answer comes at its end (R145). -/
def orderSavePreset (args : List Byte) (r : Reply) (s : State) : State :=
  s.unlessRefused r (s.saveRefusal args) (s.putOp (.saving { next := 0, reply := r }))

/-- What write `k` of a SAVE puts in its place: the INVALID header, a table record, the protect record, the VALID header (R180). -/
def State.saveBytes (s : State) (k : Nat) : List Byte :=
  if k = 0 then headerRecord false
  else if k ≤ 8 then s.tableRecord k
  else if k = 9 then flagsRecord s.protect.flags
  else headerRecord true

/-- What the place of write `k` of a SAVE holds. -/
def PresetMemory.saveOld (m : PresetMemory) (k : Nat) : List Byte :=
  if k = 0 then m.header else if k ≤ 8 then m.table k else if k = 9 then m.flags else m.header

/-- Put bytes in the place of write `k` of a SAVE. -/
def PresetMemory.saveWrite (m : PresetMemory) (k : Nat) (l : List Byte) : PresetMemory :=
  if k = 0 then { m with header := l }
  else if k ≤ 8 then { m with tables := m.tables.setIfInBounds (k - 1) l }
  else if k = 9 then { m with flags := l }
  else { m with header := l }

/-- SAVE_RECORD_WRITTEN (R180): a write completes; after the VALID header the controller is IDLE and DONE is queued. -/
def State.saveRecordWritten (s : State) : State :=
  match s.preset.op with
  | .saving v =>
    let s := (s.putMemory (s.memory.saveWrite v.next (s.saveBytes v.next))).putCondition .answering
    if v.next < 10 then s.putOp (.saving { v with next := v.next + 1 }) else (s.putOp .idle).reply v.reply .done []
  | _ => s

/-! ### LOAD PRESET (R181) -/

/-- The checks of LOAD PRESET. -/
def State.loadRefusal (s : State) (args : List Byte) : Option Result :=
  firstRefusal [refuseArgs args, s.refuseBusy, s.refuseSilent, (s.timebase.mode != .stopped || s.timebase.stopPending, .onAir)]

/-- LOAD PRESET taken: the tables whose protect flag is clear are to be placed, and the protect record loaded if the lock is clear. -/
def orderLoadPreset (args : List Byte) (r : Reply) (s : State) : State :=
  s.unlessRefused r (s.loadRefusal args)
    (s.putOp (.reloading { headerRead := false, todo := [1, 2, 3, 4, 5, 6, 7, 8].filter (fun t => !s.protectFlag t),
                           flags := !s.protect.lock, lockClear := !s.protect.lock, defaulted := 0, reply := r }))

/-- The end of a LOAD PRESET whose header was valid: IDLE, the load marker cleared, DONE queued (R181). -/
def State.reloadDone (s : State) (r : Reply) : State :=
  ((s.putOp .idle).putAnswers { s.answers with marker := false }).reply r .done []

/-- Go on with a LOAD PRESET, or end it when nothing is left to do. -/
def State.reloadNext (s : State) (v : Reload) : State :=
  if v.todo.isEmpty && !v.flags then s.reloadDone v.reply else s.putOp (.reloading v)

/-- A step of LOAD PRESET places table `t`: a bad or missing record latches PRESET_FAULT and, with the lock clear, sets the table's flag. -/
def State.reloadTable (s : State) (v : Reload) (t : Nat) (rest : List Nat) : State :=
  let l := s.memory.table t
  let good := tableRecordGood t l
  let s := (s.latchIf (!good) .presetFault).placeRecord t l
  let mark : BitVec 8 := if !good && v.lockClear then tableBit t else 0
  (s.putProtect { s.protect with flags := s.protect.flags ||| mark }).reloadNext
    { v with todo := rest, defaulted := v.defaulted ||| mark }

/-- The last step of LOAD PRESET with the lock clear: the protect record's flags replace the part's; a bad or missing record sets them all and
latches PRESET_FAULT (R169, R181). -/
def State.reloadFlags (s : State) (v : Reload) : State :=
  let good := recordGood 3 s.memory.flags
  let s := s.latchIf (!good) .presetFault
  (s.putProtect { s.protect with flags := if good then byteAt s.memory.flags 0 ||| v.defaulted else 0xFF }).reloadNext { v with flags := false }

/-- LOAD_PRESET_STEP_DONE (R181). Where a step both latches PRESET_FAULT and queues the order's answer, its ALERT comes first, the model's choice
(assumption 38). -/
def State.loadPresetStepDone (s : State) : State :=
  match s.preset.op with
  | .reloading v =>
    let s := s.putCondition .answering
    if v.headerRead then
      match v.todo with
      | t :: rest => s.reloadTable v t rest
      | [] => if v.flags then s.reloadFlags v else s.reloadDone v.reply
    else if headerValid s.memory.header then s.reloadNext { v with headerRead := true }
    else ((s.latch .presetFault).putOp .idle).reply v.reply .noPreset []
  | _ => s

/-! ### FREEZE LANE (R171) -/

/-- The lane that a FREEZE LANE names, if it is 0 to 3. -/
def freezeLane? (args : List Byte) : Option LaneNo := if h : (byteAt args 0).toNat < 4 then some ⟨(byteAt args 0).toNat, h⟩ else none

/-- The checks of FREEZE LANE, in the order of R147. -/
def State.freezeRefusal (s : State) (args : List Byte) : Option Result :=
  firstRefusal [refuseLength args 3, s.refuseBusy, s.refuseSilent, ((freezeLane? args).isNone, .range),
    ((match freezeLane? args with
      | some n => halfAt args 1 != s.tables.lane[n].station
      | none => false), .mismatch)]

/-- FREEZE LANE taken on lane `n`: DONE at once when it is frozen already, else the write of its freeze record begins. -/
def State.freezeLane (s : State) (n : LaneNo) (r : Reply) : State :=
  if s.frozen[n].isSome then s.reply r .done []
  else s.putOp (.freezing { lane := n, station := s.tables.lane[n].station, zone := s.tables.lane[n].zone, reply := r })

/-- FREEZE LANE taken. -/
def orderFreezeLane (args : List Byte) (r : Reply) (s : State) : State :=
  s.unlessRefused r (s.freezeRefusal args)
    (match freezeLane? args with
      | some n => s.freezeLane n r
      | none => s)

/-! ### A write that does not complete (R171, R180, R182) -/

/-- A place after a write of which only the first `n` bytes reached it. -/
def cutWrite (old new : List Byte) (n : Nat) : List Byte := new.take n ++ old.drop n

/-- How many bytes of write `k` of a SAVE can have reached the memory when it is cut: never the whole of a header. Of the first header, cut by a
reset, at least the mark has (R182). Of the last one a reset leaves at most a broken header (R182), and a memory that makes no response leaves
it INVALID (R180). -/
def cutSaveBytes (reset : Bool) (k n : Nat) : Nat :=
  if k = 0 then (if reset then max 1 (min n 2) else min n 2) else if k = 10 then (if reset then min n 2 else 0) else n

/-- The memory when a running write is cut: by a reset (`reset`), or by a memory that makes no response. -/
def State.cutMemory (s : State) (reset : Bool) (n : Nat) : PresetMemory :=
  match s.preset.op with
  | .saving v =>
    s.memory.saveWrite v.next (cutWrite (s.memory.saveOld v.next) (s.saveBytes v.next) (cutSaveBytes reset v.next n))
  | .freezing f =>
    { s.memory with freeze := s.memory.freeze.set f.lane (cutWrite s.memory.freeze[f.lane] (freezeRecord f.lane f.station f.zone) n) }
  | _ => s.memory

/-- FREEZE_WRITE_COMPLETE (R171). A write may fail though the memory responds to it, and then leaves the memory condition as it was, the model's
choice (assumption 41). -/
def State.freezeWriteComplete (s : State) (ok : Bool) (n : Nat) : State :=
  match s.preset.op with
  | .freezing f =>
    if ok then
      ((((s.putMemory { s.memory with freeze := s.memory.freeze.set f.lane (freezeRecord f.lane f.station f.zone) }).putFrozen
        (s.frozen.set f.lane (some { station := f.station, zone := f.zone }))).putCondition .answering).putOp .idle).reply f.reply .done []
    else ((s.putMemory (s.cutMemory false n)).putOp .idle).reply f.reply .noPreset []
  | _ => s

/-! ### PRESET_ACCESS_TIMEOUT (R172, R175, R177, R180, R181) -/

/-- Table numbers `i + 1` to 8, those the start-up load has not placed. -/
def tablesFrom (i : Nat) : List Nat := [1, 2, 3, 4, 5, 6, 7, 8].filter (fun t => decide (i < t))

/-- The start-up load makes an access at its present step: under BLANK one alone in step 5, its first (R177), and each freeze record's read. -/
def State.loadAccesses (s : State) (p : StartUp) : Bool :=
  decide (p.next < 13) && (s.loadSource == .preset || p.next == 0 || decide (9 ≤ p.next))

/-- A start-up load whose memory stops answering (R172, R177): in step 5 the tables not yet placed take their defaults, no flag is cleared and
no freeze record is read, and the load does not come from a valid image (R178); in step 6 no further freeze record is read. -/
def State.startUpSilent (s : State) (p : StartUp) : State :=
  if s.loadAccesses p then
    let s := s.latch .presetFault
    let s := if p.next < 9 then (tablesFrom p.next).foldl State.placeDefault s else s
    s.putPreset { op := .startUp { p with next := 13, image := some (decide (9 ≤ p.next) && p.image.getD false) }
                  condition := .silent
                  t7Placed := true }
  else s

/-- PRESET_ACCESS_TIMEOUT (R175): the memory condition becomes SILENT and the running operation is cut short. The ALERT of PRESET_FAULT is queued
before a LOAD's answer, the model's choice (assumption 38). -/
def State.presetAccessTimeout (s : State) (n : Nat) : State :=
  match s.preset.op with
  | .idle => s
  | .startUp p => s.startUpSilent p
  | .saving v => (((s.putMemory (s.cutMemory false n)).putCondition .silent).putOp .idle).reply v.reply .noPreset []
  | .reloading v =>
    ((((s.latch .presetFault).putCondition .silent).putOp .idle).putAnswers { (s.latch .presetFault).answers with marker := false }).reply
      v.reply .noPreset []
  | .freezing f => (((s.putMemory (s.cutMemory false n)).putCondition .silent).putOp .idle).reply f.reply .noPreset []

/-! ### The commands -/

/-- What SAVE PRESET does. -/
def execSavePreset (o : OrderMsg) (s : State) : Host.Outcome State Fault Refusal := .next (s.takeOrder o orderSavePreset)

/-- What LOAD PRESET does. -/
def execLoadPreset (o : OrderMsg) (s : State) : Host.Outcome State Fault Refusal := .next (s.takeOrder o orderLoadPreset)

/-- What FREEZE LANE does. -/
def execFreezeLane (o : OrderMsg) (s : State) : Host.Outcome State Fault Refusal := .next (s.takeOrder o orderFreezeLane)

/-- What PRESET_ACCESS_TIMEOUT does. -/
def execPresetAccessTimeout (t : Micros) (n : Nat) (s : State) : Host.Outcome State Fault Refusal :=
  .next ((s.clockAt t).presetAccessTimeout n)

/-- What START_UP_TABLE_PLACED does. -/
def execStartUpTablePlaced (t : Micros) (s : State) : Host.Outcome State Fault Refusal := .next (s.clockAt t).startUpTablePlaced

/-- What FREEZE_RECORD_READ does. -/
def execFreezeRecordRead (t : Micros) (s : State) : Host.Outcome State Fault Refusal := .next (s.clockAt t).freezeRecordRead

/-- What START_UP_LOAD_END does. -/
def execStartUpLoadEnd (t : Micros) (airFirst : Bool) (s : State) : Host.Outcome State Fault Refusal :=
  .next ((s.clockAt t).startUpLoadEnd airFirst)

/-- What SAVE_RECORD_WRITTEN does. -/
def execSaveRecordWritten (t : Micros) (s : State) : Host.Outcome State Fault Refusal := .next (s.clockAt t).saveRecordWritten

/-- What LOAD_PRESET_STEP_DONE does. -/
def execLoadPresetStepDone (t : Micros) (s : State) : Host.Outcome State Fault Refusal := .next (s.clockAt t).loadPresetStepDone

/-- What FREEZE_WRITE_COMPLETE does. -/
def execFreezeWriteComplete (t : Micros) (ok : Bool) (n : Nat) (s : State) : Host.Outcome State Fault Refusal :=
  .next ((s.clockAt t).freezeWriteComplete ok n)

end Sys2Proof.Machine
end

