-- ==== Sys2Proof/Machine/Resets.lean ====
section
/-! DEFINITION. The hard reset and the restart (R17, R40, R47, R70, R78, R81, R101, R113, R127, R138, R144, R149, R152, R153, R163, R164, R167, R170,
R176, R179, R182). -/

namespace Sys2Proof.Machine

/-- The part right after a hard reset that finds `env` outside (R176): the state after reset, with the straps as read and what lies outside the
part as it stands: the GUARD level, and the preset memory, in which a write in progress is cut (R182). -/
def State.hardReset (s : State) (env : ResetEnv) : State :=
  { State.reset with
    siteAddress := env.address
    loadSource := env.source
    guard := s.guard
    memory := s.cutMemory true env.written
    choices := s.choices
    pending := s.pending }

/-- The hold state at a restart: the fired flag is cleared, and an episode begins if the feed state, which the restart keeps, reports holdover (R70,
R78). Under a kept hold limit of 0 it fires as it begins (R71), so the fired flag that R78 gives as clear is set again: the model's reading
(assumption 42). -/
def State.restartHold (s : State) : Hold := if s.holdover then Hold.begun s.tables.site.holdLimit else Hold.none

/-- The part right after a restart that finds `env` outside (R176, R179): a hard reset that leaves the site clock, the feed path, the feed
monitor and, until their places in the load, the tables. -/
def State.restart (s : State) (env : ResetEnv) : State :=
  { State.reset with
    clock := s.clock
    siteAddress := env.address
    loadSource := env.source
    guard := s.guard
    tables := s.tables
    feed := s.feed
    monitor := s.monitor
    hold := s.restartHold
    memory := s.cutMemory true env.written
    choices := s.choices
    pending := s.pending }

/-- What HARD_RESET does (R176). -/
def execHardReset (env : ResetEnv) (s : State) : Host.Outcome State Fault Refusal := .next (s.hardReset env)

/-- RESTART_DEADLINE (R164): 200,000 µs after the RESTART order was taken, if the restart is still pending. -/
def State.restartDeadline (s : State) (env : ResetEnv) : State :=
  match s.answers.restartAt with
  | none => s
  | some t => (s.clockTo t).restart env

/-- What RESTART_DEADLINE does. -/
def execRestartDeadline (env : ResetEnv) (s : State) : Host.Outcome State Fault Refusal := .next (s.restartDeadline env)

end Sys2Proof.Machine
end

