-- ==== Sys2Proof/Machine/Titles.lean ====
section
/-! DEFINITION. The item store's handling of TITLE messages (R48 to R53). -/

namespace Sys2Proof.Machine

/-- A TITLE message body: zone mask, title length, text (R48). -/
structure TitleMsg where
  mask : Half
  length : Nat
  text : List Byte
deriving DecidableEq, Repr

/-- The TITLE that a body gives; none for a malformed one (R48). -/
def TitleMsg.parse (body : List Byte) : Option TitleMsg :=
  let n := (byteAt body 2).toNat
  if 3 ≤ body.length ∧ n ≤ 45 ∧ body.length = 3 + n then some { mask := halfAt body 0, length := n, text := body.drop 3 } else none

/-- A clamped text is identical to a record: equal lengths, and equal characters in the first `length` places (R49). -/
def TitleRecord.identical (r : TitleRecord) (length : Nat) (text : List Byte) : Bool :=
  decide (length = r.length) && r.text.take length == text

/-- The record that a differing text leaves: the text, 0x20 beyond its length, the version advanced (R50). -/
def TitleRecord.change (r : TitleRecord) (length : Nat) (text : List Byte) : TitleRecord :=
  { length := length, text := text ++ List.replicate (45 - length) 0x20, version := r.version + 1 }

/-- A changed title of zone `z` at a lane whose own zone is `own`: an ON_AIR lane of that zone has its segment cursor for the title set to 0
and takes the insertion request (R51). -/
def Lane.titleChanged (l : Lane) (own z : Zone) : Lane :=
  if l.mode = .onAir ∧ own = z then { l with segs := l.segs.put (.title z) 0 }.request z else l

/-- One named zone of a TITLE (R49 to R51). -/
def State.titleZone (s : State) (length : Nat) (text : List Byte) (z : Zone) : State :=
  if s.titles[z].identical length text then s
  else
    (s.putTitles (s.titles.set z (s.titles[z].change length text))).putLanes
      (Vector.ofFn (fun n : Fin 4 => s.lanes[n].titleChanged s.tables.lane[n].zone z))

/-- The zones of a mask, lowest first. -/
def zonesOf (mask : Half) : List Zone := (List.finRange 16).filter (fun z => mask.getLsbD z.val)

/-- Take a TITLE (R49, R52): the text is clamped, then each named zone is handled against its own record. -/
def State.takeTitle (s : State) (t : TitleMsg) : State :=
  (zonesOf t.mask).foldl (fun s z => s.titleZone t.length (t.text.map clampChar) z) s

end Sys2Proof.Machine
end

