-- ==== Sys2Proof/Machine/Feed.lean ====
section
/-! DEFINITION. The feed path (08_the_feed_path.md): the feed monitor, the frame in progress, the parse of the ancillary field, the answer
insertion, and forwarding. -/

namespace Sys2Proof.Machine

/-! ### The feed monitor (R139 to R141) -/

/-- The window with its oldest outcome removed when it holds 50. -/
def Monitor.makeRoom (m : Monitor) : Monitor :=
  if m.window.length < 50 then m
  else { m with window := m.window.drop 1, bad := if m.window.headD false then m.bad - 1 else m.bad }

/-- Record an outcome in the quality window, bad or good (R140). -/
def Monitor.record (m : Monitor) (bad : Bool) : Monitor :=
  let m := m.makeRoom
  { m with window := m.window ++ [bad], bad := if bad then m.bad + 1 else m.bad }

/-- Clear the quality window (R140). -/
def Monitor.clearWindow (m : Monitor) : Monitor := { m with window := [], bad := 0 }

/-- The feed state changes, and with it the holdover report (R143). -/
def State.putFeedState (s : State) (f : FeedState) : State := (s.putMonitor { s.monitor with state := f }).syncHold

/-- The high threshold is checked in GOOD (R139). -/
def State.highCheck (s : State) : State :=
  if s.tables.site.highThreshold ≤ s.monitor.bad then (s.putFeedState .degraded).latch .feedDegraded else s

/-- The low threshold is checked in DEGRADED (R139). -/
def State.lowCheck (s : State) : State :=
  if s.monitor.bad ≤ s.tables.site.lowThreshold then (s.putFeedState .good).latch .feedRestored else s

/-- Record the outcome of a frame's ending: complete or not, bad or not (R139). -/
def State.recordOutcome (s : State) (complete bad : Bool) : State :=
  match s.monitor.state with
  | .good => (s.putMonitor (s.monitor.record bad)).highCheck
  | .degraded => (s.putMonitor (s.monitor.record bad)).lowCheck
  | .absent =>
    if complete then ((s.putMonitor (s.monitor.clearWindow.record bad)).putFeedState .good).highCheck
    else s.putMonitor (s.monitor.record bad)
  | .lost =>
    if complete then (((s.putMonitor (s.monitor.clearWindow.record bad)).putFeedState .good).latch .feedRestored).highCheck
    else s.putMonitor (s.monitor.record bad)

/-! ### The frame in progress (R129, R130, R141) -/

/-- A pattern seen at this instant restarts the LOST timer (R129, R141). -/
def State.restartLostTimer (s : State) : State := s.putMonitor { s.monitor with lostAt := some (s.clock + micros Config.lostMicros) }

/-- A frame in progress ends without completing: it is dropped and a bad outcome is recorded (R130). -/
def State.dropFrame (s : State) : State :=
  if s.feed.inProgress.isSome then (s.putFeed { s.feed with inProgress := none }).recordOutcome false true else s

/-- SYNC_PATTERN_SEEN (R129, R130): a frame in progress is truncated; the pattern begins the next one and restarts the LOST timer. -/
def State.patternSeen (s : State) : State :=
  let s := s.dropFrame.restartLostTimer
  s.putFeed { s.feed with inProgress := some s.clock }

/-- What SYNC_PATTERN_SEEN does. -/
def execSyncPatternSeen (t : Micros) (s : State) : Host.Outcome State Fault Refusal := .next (s.clockAt t).patternSeen

/-- The LOST timer's expiry in the feed monitor (R141). -/
def State.feedLost (s : State) : State :=
  match s.monitor.state with
  | .good => (s.putFeedState .lost).latch .feedLost
  | .degraded => (s.putFeedState .lost).latch .feedLost
  | .absent => s
  | .lost => s

/-- LOST_TIMER_EXPIRY (R141): any frame in progress is abandoned, then GOOD or DEGRADED becomes LOST. -/
def State.lostTimerExpiry (s : State) : State :=
  match s.monitor.lostAt with
  | none => s
  | some t =>
    let s := s.clockTo t
    (s.putMonitor { s.monitor with lostAt := none }).dropFrame.feedLost

/-- What LOST_TIMER_EXPIRY does. -/
def execLostTimerExpiry (s : State) : Host.Outcome State Fault Refusal := .next s.lostTimerExpiry

/-! ### The ancillary parse (R133 to R136) -/

/-- The order of an order code (R185); none for a code that is no order's. -/
def orderOfCode (code : Nat) : Option (List Byte → Reply → State → State) :=
  match code with
  | 0x01 => some orderPoll
  | 0x02 => some orderReadTable
  | 0x03 => some orderWriteTable
  | 0x04 => some orderProtect
  | 0x05 => some orderUnprotect
  | 0x06 => some orderSetLock
  | 0x07 => some orderClearLock
  | 0x08 => some orderFreezeLane
  | 0x09 => some orderLaneOn
  | 0x0A => some orderLaneOff
  | 0x0B => some orderStartAir
  | 0x0C => some orderStopAir
  | 0x0D => some orderSavePreset
  | 0x0E => some orderLoadPreset
  | 0x0F => some orderReadEvents
  | 0x10 => some orderClearEvents
  | 0x11 => some orderSetAlertMask
  | 0x12 => some orderSetMarker
  | 0x13 => some orderRestart
  | _ => none

/-- An order handed over with its code (R147, step 1). -/
def State.handOrder (s : State) (code : Nat) (args : List Byte) (r : Reply) : State :=
  match orderOfCode code with
  | some run => run args r s
  | none => s.reply r .noSuchOrder []

/-- The field of a frame after `m` bytes at `p` are removed (R136). -/
def compact (field : List Byte) (p m : Nat) : List Byte := field.take p ++ field.drop (p + m) ++ List.replicate m 0

/-- A parse: the part so far, the field so far, and the position where the free space begins, none while the parse goes on and after it has
stopped. -/
structure Parse where
  part : Chosen
  field : List Byte
  free : Option Nat
deriving DecidableEq, Repr

/-- One message taken: the part after it, and whether it is consumed. None for a body malformed for its kind, or an unknown kind, which stops
the parse (R133, R134). -/
def takeMessage (carrier : FeedNo) (syncTime : Micros) (kind : Byte) (body : List Byte) (c : Chosen) : Option (Chosen × Bool) :=
  if kind = kindCue then (CueMsg.parse body carrier syncTime).map (fun m => (c.takeCue m, false))
  else if kind = kindTitle then (TitleMsg.parse body).map (fun m => ({ c with state := c.state.takeTitle m }, false))
  else if kind = kindOrder then
    if body.length < 3 then none
    else match c.state.recipient (byteAt body 0) with
      | none => some (c, false)
      | some answered =>
        some ({ c with state := c.state.handOrder (byteAt body 2).toNat (body.drop 3) { tag := byteAt body 1, answered := answered } },
          answered)
  else if kind = kindAnswer then some (c, false)
  else none

/-- The parse from position `p`, over at most `fuel` messages (R133). A field of 64 bytes holds at most 32 messages, and every consumed one leaves
0x00 behind it. -/
def parseFrom (carrier : FeedNo) (syncTime : Micros) (fuel p : Nat) (q : Parse) : Parse :=
  match fuel with
  | 0 => q
  | fuel + 1 =>
    if p = 64 then { q with free := some 64 }
    else
      let kind := byteAt q.field p
      let size := 2 + (byteAt q.field (p + 1)).toNat
      if kind = 0 then { q with free := some p }
      else if p = 63 ∨ 64 < p + size then q
      else match takeMessage carrier syncTime kind ((q.field.drop (p + 2)).take (size - 2)) q.part with
        | none => q
        | some (part, consumed) =>
          if consumed then parseFrom carrier syncTime fuel p { q with part := part, field := compact q.field p size }
          else parseFrom carrier syncTime fuel (p + size) { q with part := part }

/-! ### FEED_FRAME_COMPLETE (R130, R131, R137, R139, R164) -/

/-- The outcome of a complete frame is recorded, if `here` is its point in the step (R139). -/
def State.outcomeAt (s : State) (a : Arrival) (here : OutcomePoint) : State :=
  if a.outcomeAt = here then s.recordOutcome true (!a.frame.good) else s

/-- A pending restart has reached its limit. -/
def State.restartReached (s : State) : Bool :=
  match s.answers.restartAt with
  | some t => atOrBefore t s.clock
  | none => false

/-- A restart taken between the parse and the insertion, when its limit falls at this instant (R138). -/
def State.deadlineWithin (s : State) (a : Arrival) : State := if a.deadlineFirst && s.restartReached then s.restart a.reset else s

/-- The insertion into a parsed field, and a restart at its end when the DONE answer of a RESTART was inserted (R137, R164). Both fall at the instant
of the frame's completion: the model's choice, where R132 says only that they come before the frame is forwarded (assumption 43). -/
def State.insertAnswers (s : State) (a : Arrival) (q : Parse) : State × List Byte :=
  match q.free with
  | none => (s.outcomeAt a .afterInsertion, q.field)
  | some p =>
    let inserted := fitting p s.answers.queue
    let field := s.filledField q.field p inserted
    let s := (s.dropAnswers inserted.length).outcomeAt a .afterInsertion
    (if inserted.any Answer.ofRestart && s.answers.restartAt.isSome then s.restart a.reset else s, field)

/-- The parse of a good frame's field (R133). -/
def State.parseField (s : State) (a : Arrival) (syncTime : Micros) : Parse :=
  parseFrom (frameNumber a.frame.word) syncTime 64 0 { part := { state := s, prompt := a.prompt }, field := a.frame.anc, free := none }

/-- A good frame's handling: parse, insertion, and the outcome at its point; and the frame as it is forwarded. -/
def State.goodFrame (s : State) (a : Arrival) (syncTime : Micros) : State × FeedFrame :=
  let q := (s.outcomeAt a .beforeParse).parseField a syncTime
  let r := ((q.part.state.outcomeAt a .beforeInsertion).deadlineWithin a).insertAnswers a q
  (r.1.outcomeAt a .afterRestart, a.frame.withField r.2)

/-- A complete frame that began at `syncTime` joins those to be forwarded, to begin on FEED OUT after the forward delay and to be sent at the rate
at which it arrived (R132). -/
def State.forward (s : State) (syncTime : Micros) (f : FeedFrame) : State :=
  s.putFeed { s.feed with forwards := s.feed.forwards ++
    [{ start := s.clock + micros Config.forwardMicros, span := (sdiff s.clock syncTime).toNat, frame := f }] }

/-- A complete frame that began at `syncTime` (R131): it is no longer in progress, it is judged and handled, and it is to be forwarded. -/
def State.completeFrame (s : State) (a : Arrival) (syncTime : Micros) : State :=
  let s := s.putFeed { s.feed with inProgress := none }
  let s := if a.frame.endsInPattern then s.restartLostTimer else s
  let r := if a.frame.good then s.goodFrame a syncTime else (s.recordOutcome true true, a.frame)
  r.1.forward syncTime r.2

/-- FEED_FRAME_COMPLETE (R131): the 551st byte of the frame in progress arrives. Without a frame in progress, or with bytes that cannot be a
frame's, no frame completes. -/
def State.frameComplete (s : State) (a : Arrival) : State :=
  match s.feed.inProgress with
  | none => s
  | some syncTime => if a.frame.arrivable then (s.clockAt a.time).completeFrame a syncTime else s

/-- What FEED_FRAME_COMPLETE does. -/
def execFeedFrameComplete (a : Arrival) (s : State) : Host.Outcome State Fault Refusal := .next (s.frameComplete a)

/-! ### FRAME_FORWARD (R132) -/

/-- FRAME_FORWARD: the oldest complete frame not yet begun on FEED OUT begins there, and its audio on AUDIO OUT. -/
def State.frameForward (s : State) : State :=
  match s.feed.forwards with
  | [] => s
  | f :: rest =>
    let s := s.clockTo f.start
    s.putFeed { s.feed with forwards := rest, sending := some f }

/-- What FRAME_FORWARD does. -/
def execFrameForward (s : State) : Host.Outcome State Fault Refusal := .next s.frameForward

end Sys2Proof.Machine
end

