-- ==== Sys2Proof/Machine/Timing.lean ====
section
/-! DEFINITION. The steps that the part's own timing makes (95_what_each_step_holds.md): which of them falls next, read from the instants that State
holds. It is what a step does when no command waits (assumptions 1 and 3). -/

namespace Sys2Proof.Machine

/-- A step of the part's own timing, with its instant. -/
structure Timed where
  time : Micros
  command : Instr
deriving DecidableEq, Repr

/-- An instant that may be set, with the step it brings. -/
def timedAt (t : Option Micros) (c : Instr) : List Timed :=
  match t with
  | some t => [{ time := t, command := c }]
  | none => []

/-- A step that is under way when `b` holds: it falls at once. -/
def State.atOnce (s : State) (b : Bool) (c : Instr) : List Timed := if b then [{ time := s.clock, command := c }] else []

/-- The steps of lane `n`: records and triggers on their way, its cue line's queue and train (R61, R102, R103, R105). Which of several records on
their way arrives first the spec leaves open, and it is a free choice (R86, assumptions 3 and 12). -/
def State.laneTimed (s : State) (n : LaneNo) : List Timed :=
  s.atOnce (!s.lanes[n].records.isEmpty) (.recordArrives n (Config.pickRecord s.choices % s.lanes[n].records.length)) ++
  s.atOnce (!s.lanes[n].triggers.isEmpty) (.triggerArrives n) ++
  timedAt (s.lanes[n].cue.queue.head?.map Queued.due) (.triggerDue n) ++
  timedAt s.lanes[n].cue.phaseEnd (.phaseEnd n)

/-- The steps of the timebase and of the SYNC line (R7, R9, R115, R119, R122). -/
def State.airTimed (s : State) : List Timed :=
  timedAt (s.timebase.earlyFor.map (fun c => c - micros Config.frameMicros)) (.earlyBuild (Config.laneOrder s.choices)) ++
  timedAt (s.timebase.built.map LineFrame.start) (.lineStart (Config.fireAfter s.choices) (Config.laneOrder s.choices)) ++
  (if s.timebase.lastOfGrid then timedAt (s.timebase.onLine.map (fun f => f.start + micros Config.frameMicros)) .finalFrameEnd else []) ++
  (if s.watchesSync then timedAt (s.nextUnmet.map (fun e => e + micros (Config.windowMicros + 1))) .syncPulseMissed else []) ++
  s.atOnce (s.watchesSync && s.timebase.mode == .running && decide (3 ≤ s.timebase.misses)) .syncLost ++
  timedAt s.sync.pulseAt .masterPulseStart ++
  timedAt s.sync.lowUntil .masterPulseEnd

/-- The steps of the feed path, of the feed-loss hold and of a pending restart (R71, R132, R141, R164). A restart that comes by itself finds the
straps as the last reset did. -/
def State.feedTimed (s : State) : List Timed :=
  timedAt (s.feed.forwards.head?.map Forward.start) .frameForward ++
  timedAt s.monitor.lostAt .lostTimerExpiry ++
  s.atOnce s.hold.due .holdFires ++
  timedAt s.answers.restartAt
    (.restartDeadline { address := s.siteAddress, source := s.loadSource, written := Config.cutBytes s.choices })

/-- Every step that the part's own timing has in store. -/
def State.timed (s : State) : List Timed := laneNumbers.flatMap s.laneTimed ++ s.airTimed ++ s.feedTimed

/-- Those of a list that fall before, or together with, all others. -/
def soonest (l : List Timed) : List Timed := l.filter (fun a => l.all (fun b => atOrBefore a.time b.time))

/-- The step that comes next when no command waits: the soonest, and among several at one instant any (assumption 3). -/
def State.ownCommand (s : State) : Option Instr :=
  match soonest s.timed with
  | [] => none
  | [a] => some a.command
  | a :: rest => some ((a :: rest).getD (Config.pick s.choices % (a :: rest).length) a).command

end Sys2Proof.Machine
end

