-- ==== Sys2Proof/Machine/Dispatch.lean ====
section
/-! DEFINITION. The dispatch of a command to its meaning: one arm per constructor of Instr. -/

namespace Sys2Proof.Machine

/-- The effect of a command on everything but the queue of commands. -/
def exec (i : Instr) (s : State) : Host.Outcome State Fault Refusal :=
  match i with
  | .hardReset env => Sys2Proof.Machine.execHardReset env s
  | .restartDeadline env => Sys2Proof.Machine.execRestartDeadline env s
  | .syncPatternSeen time => Sys2Proof.Machine.execSyncPatternSeen time s
  | .feedFrameComplete arrival => Sys2Proof.Machine.execFeedFrameComplete arrival s
  | .frameForward => Sys2Proof.Machine.execFrameForward s
  | .lostTimerExpiry => Sys2Proof.Machine.execLostTimerExpiry s
  | .recordArrives lane index => Sys2Proof.Machine.execRecordArrives lane index s
  | .poll msg => Sys2Proof.Machine.execPoll msg s
  | .readTable msg => Sys2Proof.Machine.execReadTable msg s
  | .writeTable msg => Sys2Proof.Machine.execWriteTable msg s
  | .protectTables msg => Sys2Proof.Machine.execProtectTables msg s
  | .unprotectTables msg => Sys2Proof.Machine.execUnprotectTables msg s
  | .setProtectLock msg => Sys2Proof.Machine.execSetProtectLock msg s
  | .clearProtectLock msg => Sys2Proof.Machine.execClearProtectLock msg s
  | .freezeLane msg => Sys2Proof.Machine.execFreezeLane msg s
  | .laneOn msg => Sys2Proof.Machine.execLaneOn msg s
  | .laneOff msg => Sys2Proof.Machine.execLaneOff msg s
  | .startAir msg => Sys2Proof.Machine.execStartAir msg s
  | .stopAir msg => Sys2Proof.Machine.execStopAir msg s
  | .savePreset msg => Sys2Proof.Machine.execSavePreset msg s
  | .loadPreset msg => Sys2Proof.Machine.execLoadPreset msg s
  | .readEvents msg => Sys2Proof.Machine.execReadEvents msg s
  | .clearEvents msg => Sys2Proof.Machine.execClearEvents msg s
  | .setAlertMask msg => Sys2Proof.Machine.execSetAlertMask msg s
  | .setMarker msg => Sys2Proof.Machine.execSetMarker msg s
  | .restart msg => Sys2Proof.Machine.execRestart msg s
  | .presetAccessTimeout time written => Sys2Proof.Machine.execPresetAccessTimeout time written s
  | .startUpTablePlaced time => Sys2Proof.Machine.execStartUpTablePlaced time s
  | .freezeRecordRead time => Sys2Proof.Machine.execFreezeRecordRead time s
  | .startUpLoadEnd time airFirst => Sys2Proof.Machine.execStartUpLoadEnd time airFirst s
  | .saveRecordWritten time => Sys2Proof.Machine.execSaveRecordWritten time s
  | .loadPresetStepDone time => Sys2Proof.Machine.execLoadPresetStepDone time s
  | .freezeWriteComplete time ok written => Sys2Proof.Machine.execFreezeWriteComplete time ok written s
  | .earlyBuild order => Sys2Proof.Machine.execEarlyBuild order s
  | .lineStart fire order => Sys2Proof.Machine.execLineStart fire order s
  | .ceilingEnd lane => Sys2Proof.Machine.execCeilingEnd lane s
  | .holdFires => Sys2Proof.Machine.execHoldFires s
  | .finalFrameEnd => Sys2Proof.Machine.execFinalFrameEnd s
  | .syncPulse time => Sys2Proof.Machine.execSyncPulse time s
  | .syncPulseMissed => Sys2Proof.Machine.execSyncPulseMissed s
  | .syncLost => Sys2Proof.Machine.execSyncLost s
  | .masterPulseStart => Sys2Proof.Machine.execMasterPulseStart s
  | .masterPulseEnd => Sys2Proof.Machine.execMasterPulseEnd s
  | .triggerArrives lane => Sys2Proof.Machine.execTriggerArrives lane s
  | .triggerDue lane => Sys2Proof.Machine.execTriggerDue lane s
  | .phaseEnd lane => Sys2Proof.Machine.execPhaseEnd lane s
  | .guardLineChange time active => Sys2Proof.Machine.execGuardLineChange time active s

end Sys2Proof.Machine
end

