-- ==== Sys2Proof/Machine/Step.lean ====
section
/-! DEFINITION. One step of the part: the command at the front of the queue, or, when none waits, the step that the part's own timing brings next
(spec/95_what_each_step_holds.md; assumption 9). -/

namespace Sys2Proof.Machine

/-- No command waits: the step that the part's own timing brings next, with one more free choice made; without any, the part idles. -/
def stepAlone (s : State) : Host.Outcome State Fault Refusal :=
  match s.ownCommand with
  | some c => exec c (s.putChoices (s.choices + 1))
  | none => .next s

/-- One step: the command at the front of the queue is carried out on the part with the queue's rest. -/
def step (s : State) : Host.Outcome State Fault Refusal :=
  match s.pending with
  | c :: rest => exec c (s.putPending rest)
  | [] => stepAlone s

/-- The part with the command that a word spells at the front of its queue. -/
def State.withFetchWord (s : State) (nbits w : Nat) : State :=
  match decodeTableWord nbits w with
  | some c => s.putPending (c :: s.pending)
  | none => s

end Sys2Proof.Machine
end

