-- ==== Sys2Proof/Machine/Outputs.lean ====
section
/-! DEFINITION. What the part drives on its lines, read from its state (R6, R109, R119, R132, R184; the CUE lines are in CueLines.lean). -/

namespace Sys2Proof.Machine

/-- The bit period that the site clock stands in, counted from the line start of the frame on the line. -/
def State.bitPeriod (s : State) : Option Int := s.timebase.onLine.map (fun f => sdiff s.clock f.start / Config.bitMicros)

/-- The level on lane line `n`, high or not (R6): the bit of the frame on the line in whose period the clock stands; low is the idle level. -/
def State.laneLevel (s : State) (n : LaneNo) : Bool :=
  match s.lanes[n].onLine, s.bitPeriod with
  | some f, some i => decide (0 ≤ i) && decide (i < 128) && f.bit i.toNat
  | _, _ => false

/-- The bit clock of lane line `n` runs (R6). -/
def State.bitClock (s : State) (n : LaneNo) : Bool := s.lanes[n].onLine.isSome

/-- The part pulls SYNC low (R119); released, the line rests high. -/
def State.drivesSyncLow (s : State) : Bool := s.sync.lowUntil.isSome

/-- The 551 bytes of a feed frame on FEED OUT (R132, R184). -/
def frameBytes (f : FeedFrame) : List Byte := syncPattern ++ be16 f.word ++ f.audio ++ f.anc ++ be16 f.check

/-- The frame on FEED OUT at this instant, as bytes; none while the line is idle, between frames (R132). -/
def State.feedOut (s : State) : Option (List Byte) := (s.feed.sentBy s.clock 0).sending.map (fun f => frameBytes f.frame)

/-- The byte of the frame on FEED OUT that is being sent at this instant, at the byte rate at which FEED IN delivered the frame (R132). -/
def State.feedOutByte (s : State) : Option Byte :=
  (s.feed.sentBy s.clock 0).sending.map (fun f => byteAt (frameBytes f.frame) (548 * sdiff s.clock f.start / f.span).toNat)

/-- The audio payload on AUDIO OUT (R132); none between frames. It is carried while its frame is on FEED OUT, for the spec gives the instant of
its beginning and no rate of its own (assumption 26). -/
def State.audioOut (s : State) : Option (List Byte) := (s.feed.sentBy s.clock 0).sending.map (fun f => f.frame.audio)

end Sys2Proof.Machine
end

