-- ==== Sys2Proof/Safety.lean ====
section
/-! DEFINITION. What the spec says holds of the part at all times, as predicates on the state: the bounds of its queues and counts, the shapes of its
records, and the ties between its blocks. The statements say that every step keeps them. -/

namespace Sys2Proof.Safety

open Machine

/-! ### Lanes -/

/-- A level record is of its kind's form: REGULAR has no entry frame and no ceiling, the others have both (R57). -/
def levelOk (l : Level) : Bool :=
  match l.kind, l.life with
  | .regular, none => true
  | .regular, some _ => false
  | _, some life => decide (1 ≤ life.ceiling) && decide (life.ceiling ≤ 1023)
  | _, none => false

/-- The four shapes of the stack of an ON_AIR lane (R57). -/
def stackShape (stack : List Level) : Bool :=
  match stack.map Level.kind with
  | [.regular] => true
  | [.regular, .bulletin] => true
  | [.regular, .urgent] => true
  | [.regular, .bulletin, .urgent] => true
  | _ => false

/-- Nothing is left of the air in a lane that is OFF or WAITING (R13, R14, R15, R36, R58, R60, R111). -/
def offAir (l : Lane) : Bool :=
  l.stop == .none && l.onLine == none && l.stack == [] && l.schedule == [] && !l.holdPending && l.queue == [] && l.serving == none &&
    l.records == [] && l.triggers == [] && l.cue == CueLine.cleared

/-- The queues of an ON_AIR lane are within their bounds, the insertion queue names no title twice, and its service is that of a request (R32,
R33, R59, R102). -/
def queuesOk (l : Lane) : Bool :=
  decide (l.schedule.length ≤ 8) && decide (l.queue.length ≤ 4) && decide l.queue.Nodup && (l.serving.isNone || !l.queue.isEmpty) &&
    decide (l.cue.queue.length ≤ 4)

/-- A lane is as its state allows. -/
def laneOk (l : Lane) : Bool :=
  match l.mode with
  | .off => offAir l && l.inBuild == none
  | .waiting => offAir l
  | .onAir => stackShape l.stack && l.stack.all levelOk && queuesOk l

/-- A lane cleared as it enters OFF or WAITING (R15, R36, R58, R60, R78, R111): all of it is as after a reset but its bulletin sequence number, the
flags of its previous frame, the number of its last built frame and, on entering WAITING, its segment cursors. -/
def cleared (l : Lane) (toOff : Bool) : Lane :=
  { Lane.reset with
    mode := if toOff then .off else .waiting
    sequence := l.sequence
    prevB := l.prevB
    prevU := l.prevU
    lastBuilt := l.lastBuilt
    segs := if toOff then SegCursors.zero else l.segs }

/-- Every lane is as its state allows. -/
def LanesOk (s : State) : Prop := ∀ n : LaneNo, laneOk s.lanes[n] = true

/-! ### Feed monitor and hold -/

/-- The quality window holds at most 50 outcomes, and the bad count is the number of bad ones (R140). -/
def WindowOk (s : State) : Prop := s.monitor.window.length ≤ 50 ∧ s.monitor.bad = s.monitor.window.count true

/-- The episode flag is set while the feed monitor reports holdover, and outside an episode nothing is counted or fired (R70). -/
def HoldOk (s : State) : Prop :=
  s.hold.episode = s.holdover ∧ (s.hold.episode = false → s.hold.count = 0 ∧ s.hold.fired = false ∧ s.hold.due = false)

/-- The hold when the feed monitor reports holdover or not under a hold limit: a report that comes on begins an episode, which a limit of 0 fires at
once, one that goes off ends it (R70, R71). -/
def reported (h : Hold) (report : Bool) (limit : Nat) : Hold :=
  if report = h.episode then h
  else if report = true then { episode := true, count := 0, fired := decide (limit = 0), due := false }
  else { episode := false, count := 0, fired := false, due := false }

/-- The hold fires as that report comes (R71). -/
def firesAt (h : Hold) (report : Bool) (limit : Nat) : Bool := report && !h.episode && decide (limit = 0)

/-- A lane when the hold fires: ON_AIR at that moment, its hold-pending flag is set (R71). -/
def held (l : Lane) (fires : Bool) : Lane := { l with holdPending := l.holdPending || (fires && l.mode == .onAir) }

/-! ### Cues, answers -/

/-- The recent-cue list holds at most 32 numbers, none twice (R82). -/
def RecentOk (s : State) : Prop := s.recentCues.length ≤ 32 ∧ s.recentCues.Nodup

/-- The answer queue holds at most 8 answers, and the lost count is at most 255 (R149). -/
def AnswersOk (s : State) : Prop := s.answers.queue.length ≤ 8 ∧ s.answers.lost ≤ 255

/-- A part in listen-only has no answer queued (R145). -/
def ListenOk (s : State) : Prop := s.listenOnly = true → s.answers.queue = [] ∧ s.answers.lost = 0

/-! ### Tables, freeze -/

/-- Every entry of T1 to T8 is within its ranges (R158). -/
def TablesOk (s : State) : Prop := s.tables.inRange = true

/-- Every title record has its form (R46). -/
def TitlesOk (s : State) : Prop := ∀ z : Zone, s.titles[z].inRange = true

/-- A frozen lane's LANE entry holds its frozen station code and zone, and so does that of a lane whose freeze record is being written (R170,
R171). -/
def FrozenOk (s : State) : Prop :=
  (∀ (n : LaneNo) (f : Frozen), s.frozen[n] = some f → s.tables.lane[n].station = f.station ∧ s.tables.lane[n].zone = f.zone) ∧
  (∀ f : Freezing, s.preset.op = .freezing f → s.tables.lane[f.lane].station = f.station ∧ s.tables.lane[f.lane].zone = f.zone)

/-! ### Timebase -/

/-- A timebase that is STOPPED, AWAIT_SYNC or PRIMING holds no frame, no counts, no reference, no stop and no realignment; STOPPED it holds no
expected pulse and no miss either; and a pending stop leaves no line start and no early build to come (R114, R116, R118, R127). -/
def timebaseOk (b : Timebase) : Bool :=
  decide (b.misses ≤ 3) &&
  (b.mode.onGrid ||
    (b.counts == none && b.reference == none && b.onLine == none && b.built == none && b.earlyFor == none && !b.stopPending &&
      !b.lastOfGrid)) &&
  (b.mode != .stopped || (b.expected == none && !b.met && b.misses == 0)) &&
  (!b.stopPending || (b.built == none && b.earlyFor == none))

/-- The timebase is as its state allows; and a lane ON_AIR stands on a running one with a frame reference, has a stop request where the timebase's
stop is pending, and no frame on its line where the timebase has none there (R14, R96, R115, R116, R118). -/
def TimebaseOk (s : State) : Prop :=
  timebaseOk s.timebase = true ∧
  ∀ n : LaneNo, s.lanes[n].mode = .onAir →
    s.timebase.mode.onGrid = true ∧ s.timebase.reference.isSome = true ∧ (s.timebase.stopPending = true → s.lanes[n].stop ≠ .none) ∧
    (s.timebase.onLine = none → s.lanes[n].onLine = none)

/-! ### Preset memory -/

/-- Every place of the preset memory has the length of its record (R188). -/
def MemoryOk (s : State) : Prop :=
  s.memory.header.length = 3 ∧ s.memory.flags.length = 3 ∧
  (∀ i : Fin 8, s.memory.tables[i].length = 3 + entryCount (i.val + 1) * entrySize (i.val + 1)) ∧
  (∀ n : LaneNo, s.memory.freeze[n].length = 6)

/-- The table records 1 to `j` that are good hold entries within their ranges. -/
def recordsOk (m : PresetMemory) (j : Nat) : Bool :=
  (List.range' 1 j).all (fun t => !tableRecordGood t (m.table t) || (Tables.default.fromRecord t (m.table t)).inRange)

/-- The image, where a load can take it, holds entries within their ranges, as its records were written from tables that had passed the checks of
WRITE TABLE (R177): under a valid header, through a load that found one, and, as far as it has been written, under the INVALID header of a SAVE
(R180). -/
def imageOk (s : State) : Bool :=
  (!headerValid s.memory.header || recordsOk s.memory 8) &&
  match s.preset.op with
  | .idle => true
  | .freezing _ => true
  | .startUp p => p.image != some true || recordsOk s.memory 8
  | .reloading v => !v.headerRead || recordsOk s.memory 8
  | .saving v => v.next == 0 || (!headerValid s.memory.header && recordsOk s.memory (v.next - 1))

/-- The image is as its header and the running operation allow. -/
def ImageOk (s : State) : Prop := imageOk s = true

/-- What a load makes of the tables `T` that it places (R176, R170): a lane whose stack holds URGENT keeps its list entries and list lengths, a frozen
lane its station code and zone, and a timebase that is not STOPPED its sync fields. -/
def Placed (s : State) (T t : Tables) : Prop :=
  (∀ n : LaneNo, t.lane[n] = { T.lane[n] with
    station := (s.frozen[n].map Frozen.station).getD T.lane[n].station
    zone := (s.frozen[n].map Frozen.zone).getD T.lane[n].zone
    regularLen := if s.urgentOn n then s.tables.lane[n].regularLen else T.lane[n].regularLen
    bulletinLen := if s.urgentOn n then s.tables.lane[n].bulletinLen else T.lane[n].bulletinLen
    urgentLen := if s.urgentOn n then s.tables.lane[n].urgentLen else T.lane[n].urgentLen }) ∧
  (∀ (n : LaneNo) (i : Fin 32), t.regular[32 * n.val + i.val]? =
    if s.urgentOn n then s.tables.regular[32 * n.val + i.val]? else T.regular[32 * n.val + i.val]?) ∧
  (∀ (n : LaneNo) (i : Fin 8), t.bulletin[8 * n.val + i.val]? =
    if s.urgentOn n then s.tables.bulletin[8 * n.val + i.val]? else T.bulletin[8 * n.val + i.val]?) ∧
  (∀ (n : LaneNo) (i : Fin 4), t.urgent[4 * n.val + i.val]? =
    if s.urgentOn n then s.tables.urgent[4 * n.val + i.val]? else T.urgent[4 * n.val + i.val]?) ∧
  t.names = T.names ∧ t.neighbours = T.neighbours ∧ t.cueLines = T.cueLines ∧
  t.site = if s.timebase.mode = .stopped then T.site else { T.site with
    role := s.tables.site.role, divisor := s.tables.site.divisor, outOffset := s.tables.site.outOffset, inOffset := s.tables.site.inOffset }

/-- Lane `n` when the tables become `T`: a cue line whose mode changes ends its train or held level and keeps its queue (R110), and where an episode
begins with them the hold may fire (R70, R71). -/
def rewritten (s : State) (T : Tables) (n : LaneNo) : Lane :=
  held
    (if T.cueLines[n].mode = s.tables.cueLines[n].mode then s.lanes[n]
     else { s.lanes[n] with
            cue := { s.lanes[n].cue with train := .idle, phaseEnd := none, remaining := 0, followed := false, closing := false } })
    (firesAt s.hold (holdoverReport s.monitor.state T.site) T.site.holdLimit)

/-- The hold when the tables become `T` (R70, R143). -/
def reheld (s : State) (T : Tables) : Hold := reported s.hold (holdoverReport s.monitor.state T.site) T.site.holdLimit

/-- What a reset or a silent memory leaves of the preset memory: of a SAVE's write and a FREEZE LANE's, the place being written may have changed, and
no other place (R171, R180, R182). -/
def OnePlaceCut (s : State) (m : PresetMemory) : Prop :=
  match s.preset.op with
  | .saving v => ∃ l, m = s.memory.saveWrite v.next l
  | .freezing f => ∃ l, m = { s.memory with freeze := s.memory.freeze.set f.lane l }
  | .idle => m = s.memory
  | .startUp _ => m = s.memory
  | .reloading _ => m = s.memory

/-! ### Frames and selections -/

/-- The word `w` carries the data `d` with its check (R5, R190). -/
def Carries (w : BitVec 32) (d : BitVec 24) : Prop := w = d ++ crc8 d

/-- An air frame has the header given and this payload, word by word (R1, R2, R189). -/
def FrameIs (fr : AirFrame) (number : AirNo) (kind : BitVec 4) (t b u : Bool) (zone : Zone) (position : BitVec 3) (segment : Nat) (version : BitVec 2)
    (count : Nat) (payload : BitVec 72) : Prop :=
  fr.number = number ∧
  Carries fr.word0 (kind ++ BitVec.ofBool t ++ BitVec.ofBool b ++ BitVec.ofBool u ++ BitVec.ofNat 4 zone.val ++ position ++
    BitVec.ofNat 4 segment ++ version ++ BitVec.ofNat 4 count) ∧
  ∃ d1 d2 d3 : BitVec 24, payload = d1 ++ d2 ++ d3 ∧ Carries fr.word1 d1 ∧ Carries fr.word2 d2 ∧ Carries fr.word3 d3

/-- An air frame is the lane's HEAD frame at a build (R2, R3). -/
def HeadIs (x : Store) (f : LineFrame) (fr : AirFrame) (b u : Bool) (sequence : Byte) : Prop :=
  FrameIs fr f.number 1 x.entry.traffic b u x.entry.zone f.position 0 x.titles[x.entry.zone].version 1
    (x.entry.station ++ f.cycle ++ x.entry.linked ++ x.entry.trafficRef ++ sequence)

/-- The payload of a selection's content: nine characters of a name or title, eight codes of a neighbour list, or nothing (R4, R55, R189). -/
def PayloadIs (x : Store) (c : Content) (p : BitVec 72) : Prop :=
  match c.item with
  | .name i => ∀ j, j < 9 → p.extractLsb' (8 * (8 - j)) 8 = byteAt x.tables.names[i].chars (9 * c.segment + j)
  | .title z => ∀ j, j < 9 → p.extractLsb' (8 * (8 - j)) 8 = byteAt x.titles[z].text (9 * c.segment + j)
  | .neighbour i => ∀ j, j < 8 → p.extractLsb' (9 * (7 - j)) 9 = (x.tables.neighbours[i].codes.getD (8 * c.segment + j) 0).setWidth 9
  | .fill => p = 0

/-- An air frame carries a selection's content at a build: a TITLE frame with its title's zone, any other with the lane's own (R2, R4, R29). -/
def ContentIs (x : Store) (f : LineFrame) (fr : AirFrame) (b u : Bool) (c : Content) : Prop :=
  let head : BitVec 4 × Zone := match c.item with
    | .fill => (0, x.entry.zone)
    | .name _ => (2, x.entry.zone)
    | .title z => (3, z)
    | .neighbour _ => (4, x.entry.zone)
  ∃ p, PayloadIs x c p ∧
    FrameIs fr f.number head.1 x.entry.traffic b u head.2 f.position c.segment x.titles[x.entry.zone].version c.count p

/-- The cursor that a search from entry `i` leaves: at the entry found with a new visit, or at its own entry without one (R27). -/
def sought (x : Store) (k : LevelKind) (c : Cursor) (i : Nat) : Cursor :=
  match x.search k i with
  | some j => { entry := j, visit := some (x.item (x.listEntry k j)), progress := 0 }
  | none => { entry := c.entry, visit := none, progress := 0 }

/-- The segment that an item's cursor names, 0 at or beyond the item's count (R23). -/
def segmentOf (x : Store) (segs : SegCursors) (it : Item) : Nat := if x.segmentCount it ≤ segs.get it then 0 else segs.get it

/-- One frame of the title `z` at the head of a lane's insertion queue, `sent` frames after its service began (R34). -/
def servedOnce (x : Store) (l : Lane) (z : Zone) (rest : List Zone) (sent : Nat) : Content × Lane :=
  let n := x.segmentCount (.title z)
  let i := segmentOf x l.segs (.title z)
  ({ item := .title z, segment := i, count := n },
   { l with
     segs := l.segs.put (.title z) (if n ≤ i + 1 then 0 else i + 1)
     queue := if n ≤ sent + 1 then rest else z :: rest
     serving := if n ≤ sent + 1 then none else some (sent + 1) })

/-- The insertion queue is offered a frame: requests for empty titles go, and the first other one is served from its first segment (R33). -/
def offered (x : Store) (l : Lane) : Option Content × Lane :=
  match l.queue.dropWhile (fun z => x.titles[z].length == 0) with
  | [] => (none, { l with queue := [], serving := none })
  | z :: rest =>
    let r := servedOnce x { l with segs := l.segs.put (.title z) 0 } z rest 0
    (some r.1, r.2)

/-- What causes a flag's trigger in a build has the audio time `a` (R76), where the flag is read from the stacks after 0, 1, … records of step 1: none when
step 2 gave the flag its final value, else that of the last record that changed it, unless it is late. -/
def AudioOf (due : List Transition) (flag : Nat → Bool) (final : Bool) (a : Option Micros) : Prop :=
  (flag due.length ≠ final → a = none) ∧
  (∀ (n : Nat) (q : Transition), due[n]? = some q → flag n ≠ flag (n + 1) → (∀ m, n + 1 ≤ m → m ≤ due.length → flag m = final) →
    a = if q.late then none else some q.audio) ∧
  ((∀ n, n < due.length → flag n = flag (n + 1)) → a = none)

/-! ### Cue lines -/

/-- A cue line whose train starts at `t` (R105). -/
def started (c : CueLine) (e : CueEntry) (t : Micros) : CueLine :=
  { c with train := .high, phaseEnd := some (t + BitVec.ofNat 32 (e.high * 5000)), remaining := e.pulses, widths := some (e.high, e.low) }

/-- A cue line whose train is cut (R106). -/
def cut (c : CueLine) : CueLine := { c with train := .idle, phaseEnd := none, remaining := 0 }

/-! ### The ancillary field -/

/-- A message's bytes: kind, body length, body (R184). -/
def messageBytes (m : Byte × List Byte) : List Byte := m.1 :: byteOf m.2.length :: m.2

/-- Messages taken one after another, each by the part as those before it left it: the part after the last, and the messages that stay in the field
(R133, R135). None where one of them stops the parse. -/
def takeAll (carrier : FeedNo) (tN : Micros) (c : Chosen) : List (Byte × List Byte) → Option (Chosen × List (Byte × List Byte))
  | [] => some (c, [])
  | m :: rest =>
    match takeMessage carrier tN m.1 m.2 c with
    | none => none
    | some (c', consumed) => (takeAll carrier tN c' rest).map (fun r => (r.1, if consumed then r.2 else m :: r.2))

/-! ### Orders -/

/-- An order that the part takes, with room for its answer: to 255, or to the part's own address outside listen-only (R135, R145, R149). -/
def Taken (s : State) (o : OrderMsg) : Prop :=
  o.target = 255 ∨ (o.target = s.siteAddress ∧ s.listenOnly = false ∧ s.answers.queue.length < 8)

/-- The part with an order's answer queued, if the order is answered: one to 255 is not (R145, R149). -/
def answered (s : State) (o : OrderMsg) (x : Result) (data : List Byte) : State :=
  if o.target = 255 then s
  else s.putAnswers { s.answers with queue := s.answers.queue ++ [{ tag := o.tag, result := x, data := data, ofRestart := false }] }

/-- The part with an answer dropped at a full queue: the lost count goes up to at most 255, and ANSWER_LOST latches (R149). -/
def dropped (s : State) : State :=
  s.putAnswers { s.answers with lost := min 255 (s.answers.lost + 1), latches := s.answers.latches ||| Event.answerLost.bit }

/-- The part after a timed order's end, with its answer queued, if the order is answered and there is room (R145, R149). -/
def ended (s : State) (r : Reply) (x : Result) : State :=
  if r.answered then
    s.putAnswers { s.answers with queue := s.answers.queue ++ [{ tag := r.tag, result := x, data := [], ofRestart := false }] }
  else s

/-- A timed order's answer can be queued: none is asked for, or the part is not in listen-only and has room (R145, R149). -/
def CanEnd (s : State) (r : Reply) : Prop := r.answered = true → s.listenOnly = false ∧ s.answers.queue.length < 8

/-- The nineteen order commands, each with its constructor. -/
def orderCommands : List (OrderMsg → Instr) :=
  [.poll, .readTable, .writeTable, .protectTables, .unprotectTables, .setProtectLock, .clearProtectLock, .freezeLane, .laneOn, .laneOff,
   .startAir, .stopAir, .savePreset, .loadPreset, .readEvents, .clearEvents, .setAlertMask, .setMarker, .restart]

/-- The orders that are answered when they are taken: all but the three timed ones (R145). -/
def promptCommands : List (OrderMsg → Instr) :=
  [.poll, .readTable, .writeTable, .protectTables, .unprotectTables, .setProtectLock, .clearProtectLock, .laneOn, .laneOff, .startAir,
   .stopAir, .readEvents, .clearEvents, .setAlertMask, .setMarker, .restart]

/-- The orders that take no argument (R146). -/
def bareCommands : List (OrderMsg → Instr) :=
  [.poll, .clearProtectLock, .startAir, .stopAir, .savePreset, .loadPreset, .readEvents, .setMarker, .restart]

/-- The commands in which no lane builds, joins, leaves the air or is reset: those at which no level stack changes (R58). -/
def leavesStacks : Instr → Bool
  | .hardReset _ => false
  | .restartDeadline _ => false
  | .feedFrameComplete _ => false
  | .laneOff _ => false
  | .stopAir _ => false
  | .startAir _ => false
  | .startUpLoadEnd _ _ => false
  | .earlyBuild _ => false
  | .lineStart _ _ => false
  | .ceilingEnd _ => false
  | .finalFrameEnd => false
  | _ => true

end Sys2Proof.Safety
end

