-- ==== Sys2Proof/Certificates/Slice0/Obligations.lean ====
section
/-! DEFINITION. The statements for the provers. Each says what a command or the part does by the rules of spec/; the hypotheses are on the state and
the operands alone. An assumption number in a docstring names the model's own choice that the statement rests on. One holds for all of them: an event
from outside puts the site clock at its instant (`clockAt`), and a step of the part's own timing moves it to its own instant, unless it stands past it
(`clockTo`); both take off FEED OUT a frame whose sending has ended by then (assumptions 1 and 26). -/

section

open Sys2Proof Sys2Proof.Machine Sys2Proof.Safety

/-! ### Steps -/

/-- A step carries out the command at the front of the queue on the part with the queue's rest. With no command waiting, it is a step of the part's
own timing before which none of the others falls, any one where several fall together (assumption 3); and without any such step the part idles (the
model's choice, assumption 9). -/
def Obligations.StepRunsCommand : Prop :=
  (∀ (s : State) (c : Instr) (rest : List Instr), s.pending = c :: rest → step s = exec c (s.putPending rest)) ∧
  (∀ s : State, s.pending = [] →
    let soonest := fun x : Timed => ∀ y ∈ s.timed, atOrBefore x.time y.time = true
    ((∃ x ∈ s.timed, soonest x) → ∃ x ∈ s.timed, soonest x ∧ step s = exec x.command (s.putChoices (s.choices + 1))) ∧
    ((∀ x ∈ s.timed, ¬soonest x) → step s = .next s)) ∧
  (∀ (s : State) (x : Timed), s.pending = [] → s.timed = [x] → step s = exec x.command (s.putChoices (s.choices + 1))) ∧
  (∀ s : State, s.pending = [] → s.timed = [] → step s = .next s)

/-- Every command has a next state, and leaves the queue of commands and the count of free choices. That every command runs, one with impossible
operands or an event that cannot fall included, is the model's choice (assumptions 10 and 11), and so is that the queue and the count, fields of the
model's own, stand through every command, resets included (assumption 31). -/
def Obligations.ExecKeepsQueue : Prop :=
  ∀ (c : Instr) (s : State), ∃ t, exec c s = .next t ∧ t.pending = s.pending ∧ t.choices = s.choices

/-! ### Resets -/

/-- What a hard reset leaves in each block. The straps and the preset memory of `State.reset` are the model's choice (assumptions 4 to 7). -/
def Obligations.ResetValues : Prop :=
  let s := State.reset
  s.clock = 0 ∧
  (∀ n : LaneNo, s.lanes[n].mode = .off ∧ s.lanes[n].stop = .none ∧ s.lanes[n].onLine = none ∧ s.lanes[n].inBuild = none ∧
    s.lanes[n].stack = [] ∧ s.lanes[n].schedule = [] ∧ s.lanes[n].queue = [] ∧ s.lanes[n].serving = none ∧ s.lanes[n].sequence = 0 ∧
    s.lanes[n].prevB = false ∧ s.lanes[n].prevU = false ∧ s.lanes[n].holdPending = false ∧ s.lanes[n].segs = SegCursors.zero ∧
    s.lanes[n].cue.queue = [] ∧ s.lanes[n].cue.train = .idle ∧ s.lanes[n].cue.phaseEnd = none ∧ s.lanes[n].cue.remaining = 0 ∧
    s.lanes[n].cue.followed = false ∧ s.lanes[n].cue.closing = false) ∧
  (∀ z : Zone, s.titles[z].length = 0 ∧ s.titles[z].text = List.replicate 45 0x20 ∧ s.titles[z].version = 0) ∧
  s.recentCues = [] ∧
  s.timebase.mode = .stopped ∧ s.timebase.stopPending = false ∧ s.timebase.counts = none ∧ s.timebase.reference = none ∧
  s.timebase.expected = none ∧ s.timebase.misses = 0 ∧ s.timebase.earlyFor = none ∧ s.timebase.divisorCount = 0 ∧
  s.sync.lowUntil = none ∧ s.sync.pulseAt = none ∧
  s.feed.inProgress = none ∧ s.monitor.state = .absent ∧ s.monitor.window = [] ∧ s.monitor.bad = 0 ∧ s.monitor.lostAt = some 100000 ∧
  s.hold.episode = true ∧ s.hold.count = 0 ∧ s.hold.fired = false ∧
  s.answers.queue = [] ∧ s.answers.lost = 0 ∧ s.answers.latches = 0 ∧ s.answers.mask = 0 ∧ s.answers.marker = false ∧
  s.answers.restartAt = none ∧
  (∀ t, 1 ≤ t → t ≤ 8 → s.protectFlag t = true) ∧ s.protect.lock = false ∧ (∀ n : LaneNo, s.frozen[n] = none) ∧
  s.presetBusy = true ∧ s.tables = Tables.default

/-- The invariants of the statements below hold right after reset. Of `State.reset` itself it is the model's choice that the preset memory was never
written (assumption 6), on which the forms of the memory and of the image rest, and that the straps read address 0, so that the part is in listen-only
(assumption 4). -/
def Obligations.InvariantsAtReset : Prop :=
  LanesOk State.reset ∧ WindowOk State.reset ∧ HoldOk State.reset ∧ RecentOk State.reset ∧ AnswersOk State.reset ∧ ListenOk State.reset ∧
  TablesOk State.reset ∧ TitlesOk State.reset ∧ FrozenOk State.reset ∧ TimebaseOk State.reset ∧ MemoryOk State.reset ∧ ImageOk State.reset

/-- HARD_RESET: every block takes its reset values, the straps are read, and of the preset memory only the place that a SAVE or a FREEZE LANE is
writing may have changed; a SAVE that is aborted leaves a header that is not valid. The model's choices in it: GUARD, a line from outside, stands
(assumption 5), and so do the other places of the preset memory (assumption 24) and the model's own queue of commands and count of choices (assumption
31); a lane's last built frame is 0 (assumption 16); records and triggers on their way are lost (assumption 15); the straps and the memory's condition
of `State.reset` are entries 4 and 7; a cut write leaves a beginning of the new record (assumption 23). -/
def Obligations.HardResetResult : Prop :=
  ∀ (env : ResetEnv) (s : State), ∃ t, exec (.hardReset env) s = .next t ∧
    t = { State.reset with
          siteAddress := env.address, loadSource := env.source, guard := s.guard, memory := t.memory, choices := s.choices,
          pending := s.pending } ∧
    OnePlaceCut s t.memory ∧
    (∀ v, s.preset.op = .saving v → v.next ≤ 10 → (1 ≤ v.next → s.memory.header = sealRecord [0x00]) → headerValid t.memory.header = false)

/-- RESTART_DEADLINE with a restart pending: the site clock, the feed path, the feed monitor and the tables are kept, and all else is as a hard reset
leaves it: lanes, titles, recent cues, timebase, SYNC line, answer unit, protection, freeze and cue lines, and the start-up load at its first step; an
episode begins if the feed reports holdover, fired at once under a hold limit of 0; of the preset memory only a place being written may have changed.
The model's choices in it: GUARD stands (assumption 5), a lane's last built frame is 0 (assumption 16), records and triggers on their way are lost
(assumption 15), the memory's condition (assumption 7), the model's own queue and count (assumption 31), and the fired flag set by the restart itself
under a hold limit of 0 (assumption 42). -/
def Obligations.RestartResult : Prop :=
  ∀ (env : ResetEnv) (s : State) (d : Micros), s.answers.restartAt = some d →
    ∃ t, exec (.restartDeadline env) s = .next t ∧
      t = { State.reset with
        clock := (s.clockTo d).clock, feed := (s.clockTo d).feed, monitor := s.monitor, tables := s.tables, guard := s.guard
        siteAddress := env.address, loadSource := env.source, memory := t.memory, choices := s.choices, pending := s.pending
        hold := { episode := s.holdover, count := 0, fired := s.holdover && s.tables.site.holdLimit == 0, due := false } } ∧
      OnePlaceCut s t.memory ∧
      (∀ n : LaneNo, t.lanes[n] = Lane.reset) ∧ (∀ z : Zone, t.titles[z] = TitleRecord.empty) ∧ t.recentCues = [] ∧
      t.timebase = Timebase.reset ∧ t.sync = { pulseAt := none, lowUntil := none } ∧ t.answers = AnswerUnit.reset ∧
      t.protect = { flags := 0xFF, lock := false } ∧ (∀ n : LaneNo, t.frozen[n] = none) ∧
      t.preset.op = .startUp { next := 0, image := none, defaulted := 0 } ∧ t.preset.t7Placed = false

/-! ### Orders -/

/-- POLL is answered DONE with no data and changes no state; to 255 it has no effect; its answer carries, at the insertion, the status summary and
the lost count. -/
def Obligations.PollResult : Prop :=
  (∀ (o : OrderMsg) (s : State), o.args = [] → Taken s o → exec (.poll o) s = .next (answered (s.clockAt o.time) o .done [])) ∧
  (∀ (o : OrderMsg) (s : State), o.args = [] → o.target = 255 → exec (.poll o) s = .next (s.clockAt o.time)) ∧
  (∀ (s : State) (tag : Byte),
    s.answerMessage { tag := tag, result := .done, data := [], ofRestart := false } =
      [0x04, 7, s.siteAddress, tag, 0, s.summary1, s.summary2, s.summary3, byteOf s.answers.lost])

/-- READ TABLE of an entry that exists: the data are the table number, the first entry, the count returned, and that many entries, as many as were
asked, as the table has, and as fit in 52 bytes; at least one. -/
def Obligations.ReadTableResult : Prop :=
  ∀ (o : OrderMsg) (s : State) (t f n : Byte), o.args = [t, f, n] → 1 ≤ t.toNat → t.toNat ≤ 9 → f.toNat < entryCount t.toNat → n ≠ 0 →
    Taken s o →
    ∃ k, k = min n.toNat (min (entryCount t.toNat - f.toNat) (52 / entrySize t.toNat)) ∧ 1 ≤ k ∧
      exec (.readTable o) s = .next (answered (s.clockAt o.time) o .done
        ([t, f, byteOf k] ++ (List.range k).flatMap (fun j => s.tables.entryBytes s.titles t.toNat (f.toNat + j))))

/-- WRITE TABLE that passes its checks: every entry is stored at once, DONE is answered, a cue line whose mode changes ends its train and keeps its
queue, the hold episode begins or ends with the report as the written table gives it, with a hold limit of 0 firing at once on every lane that is
ON_AIR, and nothing else changes. -/
def Obligations.WriteTableResult : Prop :=
  ∀ (o : OrderMsg) (s : State), Taken s o → (s.clockAt o.time).writeRefusal o.args = none →
    ∃ t, exec (.writeTable o) s = .next t ∧
      t = { s.clockAt o.time with
            tables := s.tables.storeAll (byteAt o.args 0).toNat (byteAt o.args 1).toNat (WriteArgs.read o.args).entries
            lanes := t.lanes
            hold := reheld s t.tables
            answers := (answered (s.clockAt o.time) o .done []).answers } ∧
      (∀ n : LaneNo, t.lanes[n] = rewritten s t.tables n) ∧
      (HoldOk s → HoldOk t ∧ (t.holdover = s.holdover → t.hold = s.hold))

/-- A stored entry reads back as written, but for a name's clamped characters and the zeros of a neighbour list beyond its count; and every other
entry reads back as before. -/
def Obligations.WriteThenReadBack : Prop :=
  ∀ (T : Tables) (titles : Vector TitleRecord 16) (t i : Nat) (l : List Byte), 1 ≤ t → t ≤ 8 → i < entryCount t → entryOk t l = true →
    (T.store t i l).entryBytes titles t i =
      (if t = 5 then l.map clampChar
       else if t = 6 then l.take (1 + 2 * (byteAt l 0).toNat) ++ List.replicate (48 - 2 * (byteAt l 0).toNat) 0
       else l) ∧
    (∀ t' j, (t', j) ≠ (t, i) → t' ≤ 9 → (T.store t i l).entryBytes titles t' j = T.entryBytes titles t' j)

/-- The refusals of orders that can be answered, each with its result, and with nothing changed but the answer; of several checks that fail, the first
in the order of R147 gives the result. Of a WRITE TABLE: no such table, wrong length, T9, a busy preset controller, the table's protect flag, a field
or a place out of range, a sync field changed on air, a list of a lane holding URGENT, a frozen lane's identity. Of the others: the forms of their
arguments, sets outside their members, a busy controller, a silent memory, a lane that does not exist, a wrong confirmation, an unknown code. LOCKED,
UNSET, URGENT_ACTIVE of LANE OFF and STOP AIR, and ON_AIR of LOAD PRESET stand with their orders' statements. -/
def Obligations.RefusalResults : Prop :=
  let no := fun (c : OrderMsg → Instr) (o : OrderMsg) (s : State) (x : Result) =>
    exec (c o) s = .next (answered (s.clockAt o.time) o x [])
  (∀ (o : OrderMsg) (s : State), Taken s o →
    (∀ c ∈ bareCommands, o.args ≠ [] → no c o s .malformed) ∧
    (∀ t rest, o.args = t :: rest → t = 0 ∨ 9 < t.toNat → no .readTable o s .noSuchTable ∧ no .writeTable o s .noSuchTable) ∧
    (o.args = [] ∨ (1 ≤ (byteAt o.args 0).toNat ∧ (byteAt o.args 0).toNat ≤ 9) →
      (o.args.length ≠ 3 → no .readTable o s .malformed) ∧ (o.args.length < 3 → no .writeTable o s .malformed)) ∧
    (∀ t f n, o.args = [t, f, n] → 1 ≤ t.toNat → t.toNat ≤ 9 → entryCount t.toNat ≤ f.toNat ∨ n = 0 → no .readTable o s .range) ∧
    (o.args.length ≠ 2 → no .protectTables o s .malformed ∧ no .unprotectTables o s .malformed ∧ no .clearEvents o s .malformed ∧
      no .setAlertMask o s .malformed) ∧
    (o.args.length ≠ 1 → no .laneOn o s .malformed ∧ no .laneOff o s .malformed) ∧
    (1 < o.args.length → no .setProtectLock o s .malformed) ∧ (o.args.length ≠ 3 → no .freezeLane o s .malformed) ∧
    (o.args.length = 2 → eventSetOk (halfAt o.args 0) = false → no .clearEvents o s .range ∧ no .setAlertMask o s .range) ∧
    (∀ v, o.args = [v] → laneSetOk v = false → no .laneOn o s .range ∧ no .laneOff o s .range) ∧
    (s.presetBusy = true →
      (o.args.length = 2 → no .protectTables o s .presetBusy ∧ no .unprotectTables o s .presetBusy) ∧
      (o.args.length ≤ 1 → no .setProtectLock o s .presetBusy) ∧ (o.args.length = 3 → no .freezeLane o s .presetBusy) ∧
      (o.args = [] → no .clearProtectLock o s .presetBusy ∧ no .savePreset o s .presetBusy ∧ no .loadPreset o s .presetBusy)) ∧
    (s.presetBusy = false →
      (o.args.length = 2 → s.protect.lock = false → tableSetOk (tableSet o.args) = false →
        no .protectTables o s .range ∧ no .unprotectTables o s .range) ∧
      (∀ b, o.args = [b] → b ≠ 0 → b ≠ 1 → no .setProtectLock o s .range) ∧
      (s.preset.condition = .silent →
        (o.args.length = 3 → no .freezeLane o s .noPreset) ∧
        (o.args = [] → no .savePreset o s .noPreset ∧ no .loadPreset o s .noPreset)) ∧
      (∀ l hi lo, o.args = [l, hi, lo] → s.preset.condition = .answering →
        (4 ≤ l.toNat → no .freezeLane o s .range) ∧
        (∀ n : LaneNo, l = byteOf n.val → hi ++ lo ≠ s.tables.lane[n].station → no .freezeLane o s .mismatch)))) ∧
  (∀ (o : OrderMsg) (s : State) (t f n : Byte) (rest : List Byte), o.args = t :: f :: n :: rest → Taken s o →
    let no := no .writeTable o s
    let entries := cutEntries (entrySize t.toNat) n.toNat rest
    (1 ≤ t.toNat → t.toNat ≤ 9 → rest.length ≠ n.toNat * entrySize t.toNat → no .malformed) ∧
    (rest.length = n.toNat * entrySize t.toNat →
      (t = 9 → no .readOnly) ∧
      (1 ≤ t.toNat → t.toNat ≤ 8 →
        (s.presetBusy = true → no .presetBusy) ∧
        (s.presetBusy = false → s.protectFlag t.toNat = true → no .isProtected) ∧
        (s.presetBusy = false → s.protectFlag t.toNat = false →
          (n = 0 ∨ entryCount t.toNat < f.toNat + n.toNat ∨ (∃ l ∈ entries, entryOk t.toNat l = false) → no .range) ∧
          (n ≠ 0 → f.toNat + n.toNat ≤ entryCount t.toNat → (∀ l ∈ entries, entryOk t.toNat l = true) →
            (t = 8 → s.timebase.mode ≠ .stopped → (SiteEntry.load rest).sameSync s.tables.site = false → no .onAir) ∧
            (∀ (i : Nat) (m : LaneNo), t = 2 ∨ t = 3 ∨ t = 4 → f.toNat ≤ i → i < f.toNat + n.toNat → i / (entryCount t.toNat / 4) = m.val →
              s.urgentOn m = true → no .urgentActive) ∧
            (t = 1 →
              let written := fun m : LaneNo => LaneEntry.load ((rest.drop ((m.val - f.toNat) * 24)).take 24)
              let lengths := fun e : LaneEntry => (e.regularLen, e.bulletinLen, e.urgentLen)
              let changesUrgent := fun m : LaneNo => f.toNat ≤ m.val ∧ m.val < f.toNat + n.toNat ∧ s.urgentOn m = true ∧
                lengths (written m) ≠ lengths s.tables.lane[m]
              ((∃ m, changesUrgent m) → no .urgentActive) ∧
              (¬(∃ m, changesUrgent m) → ∀ (m : LaneNo) (z : Frozen), f.toNat ≤ m.val → m.val < f.toNat + n.toNat →
                s.frozen[m] = some z → (written m).station ≠ z.station ∨ (written m).zone ≠ z.zone → no .frozen))))))) ∧
  (∀ (s : State) (code : Nat) (args : List Byte) (r : Reply), code = 0 ∨ 0x13 < code → s.handOrder code args r = s.reply r .noSuchOrder [])

/-- An order that is neither to 255 nor, outside listen-only, to the part's own address changes nothing. -/
def Obligations.OrdersForOthersPass : Prop :=
  ∀ c ∈ orderCommands, ∀ (o : OrderMsg) (s : State), o.target ≠ 255 → s.listenOnly = true ∨ o.target ≠ s.siteAddress →
    exec (c o) s = .next (s.clockAt o.time)

/-- The protection orders and the GUARD line: PROTECT and UNPROTECT TABLES change the named flags alone and are refused LOCKED under the lock; SET
PROTECT LOCK sets the lock, all flags first if it says so, and under the lock changes nothing; CLEAR PROTECT LOCK is refused LOCKED only with
the lock set and GUARD active. -/
def Obligations.ProtectionResults : Prop :=
  (∀ (o : OrderMsg) (s : State), Taken s o → s.presetBusy = false → s.protect.lock = false → o.args.length = 2 →
    tableSetOk (tableSet o.args) = true →
    (∃ f, exec (.protectTables o) s = .next (answered ((s.clockAt o.time).putProtect { flags := f, lock := false }) o .done []) ∧
      ∀ k : Fin 8, f.getLsbD k.val = (s.protectFlag (k.val + 1) || (tableSet o.args).getLsbD (k.val + 1))) ∧
    (∃ f, exec (.unprotectTables o) s = .next (answered ((s.clockAt o.time).putProtect { flags := f, lock := false }) o .done []) ∧
      ∀ k : Fin 8, f.getLsbD k.val = (s.protectFlag (k.val + 1) && !(tableSet o.args).getLsbD (k.val + 1)))) ∧
  (∀ (o : OrderMsg) (s : State), Taken s o → s.presetBusy = false → s.protect.lock = true → o.args.length = 2 →
    exec (.protectTables o) s = .next (answered (s.clockAt o.time) o .locked []) ∧
    exec (.unprotectTables o) s = .next (answered (s.clockAt o.time) o .locked [])) ∧
  (∀ (o : OrderMsg) (s : State), Taken s o → s.presetBusy = false → o.args = [] ∨ o.args = [0] ∨ o.args = [1] →
    exec (.setProtectLock o) s = .next (answered ((s.clockAt o.time).putProtect
      { flags := if s.protect.lock = false ∧ o.args = [1] then 0xFF else s.protect.flags, lock := true }) o .done [])) ∧
  (∀ (o : OrderMsg) (s : State), Taken s o → s.presetBusy = false → o.args = [] →
    exec (.clearProtectLock o) s = .next (if s.protect.lock = true ∧ s.guard = true then answered (s.clockAt o.time) o .locked []
      else answered ((s.clockAt o.time).putProtect { flags := s.protect.flags, lock := false }) o .done [])) ∧
  (∀ (t : Micros) (b : Bool) (s : State), exec (.guardLineChange t b) s = .next ((s.clockAt t).putGuard b))

/-- FREEZE LANE and the completion of its write. An order that names a lane with its station code begins the write of the lane's station code and
zone, or, for a frozen lane, is answered DONE at once; a write that succeeds puts the record in the lane's place, freezes the lane and ends the
order DONE; one that fails ends it NO_PRESET with the flag clear,
and leaves the memory's condition as it was (the model's choice, assumption 41). -/
def Obligations.FreezeResults : Prop :=
  (∀ (o : OrderMsg) (s : State) (n : LaneNo), Taken s o → s.presetBusy = false → s.preset.condition = .answering →
    o.args = [byteOf n.val] ++ be16 s.tables.lane[n].station →
    (s.frozen[n].isSome = true → exec (.freezeLane o) s = .next (answered (s.clockAt o.time) o .done [])) ∧
    (s.frozen[n] = none → exec (.freezeLane o) s = .next ((s.clockAt o.time).putPreset { s.preset with
      op := .freezing { lane := n, station := s.tables.lane[n].station, zone := s.tables.lane[n].zone,
                        reply := { tag := o.tag, answered := decide (o.target ≠ 255) } } }))) ∧
  (∀ (t : Micros) (k : Nat) (s : State) (f : Freezing), s.preset.op = .freezing f → CanEnd s f.reply →
    exec (.freezeWriteComplete t true k) s = .next (ended { s.clockAt t with
      memory := { s.memory with freeze := s.memory.freeze.set f.lane (sealRecord ([byteOf f.lane.val] ++ be16 f.station ++ [byteOf f.zone.val])) }
      frozen := s.frozen.set f.lane (some { station := f.station, zone := f.zone })
      preset := { s.preset with op := .idle, condition := .answering } } f.reply .done) ∧
    ∃ l, exec (.freezeWriteComplete t false k) s = .next (ended { s.clockAt t with
      memory := { s.memory with freeze := s.memory.freeze.set f.lane l }
      preset := { s.preset with op := .idle } } f.reply .noPreset))

/-- LANE ON: a named lane that is OFF becomes WAITING, one ON_AIR with a stop to OFF pending stops to WAITING instead, and nothing else changes; a
named OFF lane whose station code is 0 makes the whole order UNSET. -/
def Obligations.LaneOnResult : Prop :=
  ∀ (o : OrderMsg) (s : State) (v : Byte), o.args = [v] → laneSetOk v = true → Taken s o →
    ((∀ n : LaneNo, v.getLsbD n.val = true → s.lanes[n].mode = .off → s.tables.lane[n].station ≠ 0) →
      ∃ t, exec (.laneOn o) s = .next t ∧
        t = { s.clockAt o.time with lanes := t.lanes, answers := (answered (s.clockAt o.time) o .done []).answers } ∧
        ∀ n : LaneNo, t.lanes[n] =
          if v.getLsbD n.val = false then s.lanes[n]
          else match s.lanes[n].mode with
            | .off => { s.lanes[n] with mode := .waiting }
            | .waiting => s.lanes[n]
            | .onAir => if s.lanes[n].stop = .toOff then { s.lanes[n] with stop := .toWaiting } else s.lanes[n]) ∧
    ((∃ n : LaneNo, v.getLsbD n.val = true ∧ s.lanes[n].mode = .off ∧ s.tables.lane[n].station = 0) →
      exec (.laneOn o) s = .next (answered (s.clockAt o.time) o .unset []))

/-- LANE OFF: a named WAITING lane, or one ON_AIR without a frame on the line, goes OFF and is cleared; one ON_AIR with a frame on the line stops to
OFF at its end; nothing else changes. A named lane whose stack holds URGENT makes the whole order URGENT_ACTIVE. That records and triggers on their
way to a cleared lane are lost with the clearing is the model's choice (assumption 15). -/
def Obligations.LaneOffResult : Prop :=
  ∀ (o : OrderMsg) (s : State) (v : Byte), o.args = [v] → laneSetOk v = true → Taken s o →
    ((∀ n : LaneNo, v.getLsbD n.val = true → s.urgentOn n = false) →
      ∃ t, exec (.laneOff o) s = .next t ∧
        t = { s.clockAt o.time with lanes := t.lanes, answers := (answered (s.clockAt o.time) o .done []).answers } ∧
        ∀ n : LaneNo, t.lanes[n] =
          if v.getLsbD n.val = false ∨ s.lanes[n].mode = .off then s.lanes[n]
          else if s.lanes[n].mode = .onAir ∧ s.lanes[n].onLine.isSome = true then { s.lanes[n] with stop := .toOff }
          else cleared s.lanes[n] true) ∧
    ((∃ n : LaneNo, v.getLsbD n.val = true ∧ s.urgentOn n = true) →
      exec (.laneOff o) s = .next (answered (s.clockAt o.time) o .urgentActive []))

/-- START AIR: in any state but STOPPED it changes nothing; from STOPPED a FOLLOWER awaits sync, and a part of another role runs: frame 0, position 0,
cycle count 0 is built at once for a line start 80,000 µs later, a WAITING lane with a station code building its join frame, a HEAD frame with B and U
clear and sequence number 0. No lane is ON_AIR while the timebase is STOPPED. That this early build falls within START AIR's own step is the model's
choice (assumption 19), and so is that the divisor counter is 0 from there on (assumption 36). -/
def Obligations.StartAirResult : Prop :=
  ∀ (o : OrderMsg) (s : State), o.args = [] → Taken s o →
    (s.timebase.mode ≠ .stopped → exec (.startAir o) s = .next (answered (s.clockAt o.time) o .done [])) ∧
    (s.timebase.mode = .stopped → s.tables.site.role = .follower →
      exec (.startAir o) s = .next (answered ((s.clockAt o.time).putTimebase { Timebase.reset with mode := .awaitSync }) o .done [])) ∧
    (s.timebase.mode = .stopped → s.tables.site.role ≠ .follower → (∀ n : LaneNo, s.lanes[n].mode ≠ .onAir) →
      let first : LineFrame := { number := 0, position := 0, start := (s.clockAt o.time).clock + 80000, cycle := 0 }
      ∃ t, exec (.startAir o) s = .next t ∧
        t = { s.clockAt o.time with
              lanes := t.lanes
              timebase := { Timebase.reset with
                mode := .running, counts := some { number := 1, position := 1, cycle := 1 }, built := some first }
              answers := (answered (s.clockAt o.time) o .done []).answers } ∧
        ∀ n : LaneNo,
          if s.lanes[n].mode = .waiting ∧ s.lanes[n].inBuild = none ∧ s.tables.lane[n].station ≠ 0 then
            ∃ fr, t.lanes[n] = { s.lanes[n] with inBuild := some fr, lastBuilt := 0 } ∧ HeadIs (s.store n) first fr false false 0
          else t.lanes[n] = s.lanes[n])

/-- STOP AIR with no lane holding URGENT. On the timebase: AWAIT_SYNC and PRIMING become STOPPED; RUNNING and HOLDOVER with a frame on the line keep
it to its end, with no line start and no early build to come, and without one become STOPPED; STOPPED, and a pending stop, stay. On each lane: a
join frame is discarded; a lane ON_AIR with a frame on the line stops to WAITING unless a stop is pending, and without one is cleared, with the
records and triggers on their way to it (the model's choice, assumption 15). That the divisor counter stays as it is in STOPPED is the model's choice
too (assumption 36). A lane holding URGENT makes it URGENT_ACTIVE. -/
def Obligations.StopAirResult : Prop :=
  (∀ (o : OrderMsg) (s : State), o.args = [] → Taken s o → (∀ n : LaneNo, s.urgentOn n = false) →
    ∃ t, exec (.stopAir o) s = .next t ∧
      t = { s.clockAt o.time with
            lanes := t.lanes, timebase := t.timebase, sync := t.sync
            answers := (answered (s.clockAt o.time) o .done []).answers } ∧
      (∀ n : LaneNo, t.lanes[n] = match s.lanes[n].mode with
        | .off => s.lanes[n]
        | .waiting => { s.lanes[n] with inBuild := none }
        | .onAir =>
          if s.lanes[n].onLine.isSome = true then
            { s.lanes[n] with stop := if s.lanes[n].stop = .none then .toWaiting else s.lanes[n].stop }
          else cleared s.lanes[n] (s.lanes[n].stop == .toOff)) ∧
      (if s.timebase.mode = .stopped ∨ (s.timebase.mode.onGrid = true ∧ s.timebase.stopPending = true) then
        t.timebase = s.timebase ∧ t.sync = s.sync
       else if s.timebase.mode.onGrid = true ∧ s.timebase.onLine.isSome = true then
        t.timebase = { s.timebase with stopPending := true, lastOfGrid := true, built := none, earlyFor := none } ∧ t.sync = s.sync
       else t.timebase = { Timebase.reset with divisorCount := s.timebase.divisorCount } ∧ t.sync = { s.sync with pulseAt := none })) ∧
  (∀ (o : OrderMsg) (s : State) (n : LaneNo), o.args = [] → Taken s o → s.urgentOn n = true →
    exec (.stopAir o) s = .next (answered (s.clockAt o.time) o .urgentActive []))

/-- SAVE PRESET and LOAD PRESET that pass their checks start their operation and queue no answer: SAVE from the INVALID header, LOAD with the tables
whose protect flag is clear, and with the protect record only under a clear lock. -/
def Obligations.PresetOrdersTaken : Prop :=
  ∀ (o : OrderMsg) (s : State), o.args = [] → Taken s o → s.presetBusy = false → s.preset.condition = .answering →
    exec (.savePreset o) s = .next ((s.clockAt o.time).putPreset { s.preset with
      op := .saving { next := 0, reply := { tag := o.tag, answered := decide (o.target ≠ 255) } } }) ∧
    (s.timebase.mode = .stopped → s.timebase.stopPending = false →
      ∃ v, exec (.loadPreset o) s = .next ((s.clockAt o.time).putPreset { s.preset with op := .reloading v }) ∧
        v.headerRead = false ∧ v.todo = [1, 2, 3, 4, 5, 6, 7, 8].filter (fun t => !s.protectFlag t) ∧ v.flags = !s.protect.lock ∧
        v.lockClear = !s.protect.lock ∧ v.reply = { tag := o.tag, answered := decide (o.target ≠ 255) }) ∧
    (s.timebase.mode ≠ .stopped → exec (.loadPreset o) s = .next (answered (s.clockAt o.time) o .onAir []))

/-- READ EVENTS is answered DONE with the latches and the alert mask as they stand, and clears no latch; its attention flag is read at the
insertion. -/
def Obligations.ReadEventsResult : Prop :=
  (∀ (o : OrderMsg) (s : State), o.args = [] → Taken s o →
    exec (.readEvents o) s = .next (answered (s.clockAt o.time) o .done
      (be16 (s.answers.latches.setWidth 16) ++ be16 (s.answers.mask.setWidth 16)))) ∧
  (∀ (s : State) (a : Answer), (byteAt (s.answerMessage a) 5).getLsbD 0 = (s.answers.latches != 0))

/-- SET ALERT MASK makes the mask the named set and is answered DONE; it queues no alert for a latch already set; from then on a latch that goes from
clear to set queues an alert if it is named, and ANSWER_LOST queues none. -/
def Obligations.SetAlertMaskResult : Prop :=
  ∀ (o : OrderMsg) (s : State), o.args.length = 2 → eventSetOk (halfAt o.args 0) = true → Taken s o →
    ∃ t, exec (.setAlertMask o) s = .next t ∧
      t = answered ((s.clockAt o.time).putAnswers { s.answers with mask := t.answers.mask }) o .done [] ∧
      (∀ e : Event, t.answers.mask.getLsbD e.number = (halfAt o.args 0).getLsbD e.number) ∧
      (∀ e : Event, t.latched e = true → t.latch e = t) ∧
      (∀ e : Event, t.latched e = false → t.listenOnly = false → t.answers.queue.length < 8 → e ≠ .answerLost →
        (t.latch e).answers.queue =
          t.answers.queue ++ (if (halfAt o.args 0).getLsbD e.number then
            [{ tag := 0, result := .alert, data := be16 ((t.answers.latches ||| e.bit).setWidth 16), ofRestart := false }] else [])) ∧
      (t.latch .answerLost).answers.queue = t.answers.queue

/-- CLEAR EVENTS clears the named latches, and the lost count when it names ANSWER_LOST; SET MARKER sets the load marker; RESTART makes a restart
pending 200,000 µs after it, or leaves the instant of one already pending. Each is answered DONE and changes nothing else. -/
def Obligations.EventMarkerRestartResults : Prop :=
  (∀ (o : OrderMsg) (s : State), o.args.length = 2 → eventSetOk (halfAt o.args 0) = true → Taken s o →
    ∃ l, exec (.clearEvents o) s = .next (answered ((s.clockAt o.time).putAnswers { s.answers with
        latches := l, lost := if (halfAt o.args 0).getLsbD 11 then 0 else s.answers.lost }) o .done []) ∧
      ∀ e : Event, l.getLsbD e.number = (s.latched e && !(halfAt o.args 0).getLsbD e.number)) ∧
  (∀ (o : OrderMsg) (s : State), o.args = [] → Taken s o →
    exec (.setMarker o) s = .next (answered ((s.clockAt o.time).putAnswers { s.answers with marker := true }) o .done [])) ∧
  (∀ (o : OrderMsg) (s : State), o.args = [] → Taken s o →
    exec (.restart o) s = .next ((s.clockAt o.time).putAnswers { s.answers with
      restartAt := some (s.answers.restartAt.getD ((s.clockAt o.time).clock + 200000))
      queue := if o.target = 255 then s.answers.queue
        else s.answers.queue ++ [{ tag := o.tag, result := .done, data := [], ofRestart := true }] }))

/-! ### Answers and events -/

/-- An event with its latch set changes nothing. One with its latch clear sets it; with its mask bit open, outside listen-only and for another event
than ANSWER_LOST, an ALERT with all latches joins the queue. An answer joins the queue as its newest; at a full queue it is dropped, with the lost
count up to at most 255 and ANSWER_LOST latched, and in listen-only it is dropped without a count. So with an alert, and with an order of any kind to
the part's own address: at a full queue no answer joins, and one that is answered when it is taken has its answer counted as lost. -/
def Obligations.LatchRaisesAlert : Prop :=
  (∀ (s : State) (e : Event),
    (s.latched e = true → s.latch e = s) ∧
    (s.latched e = false → s.answers.mask.getLsbD e.number = false ∨ e = .answerLost ∨ s.listenOnly = true →
      s.latch e = s.putAnswers { s.answers with latches := s.answers.latches ||| e.bit }) ∧
    (s.latched e = false → s.answers.mask.getLsbD e.number = true → e ≠ .answerLost → s.listenOnly = false →
      (s.answers.queue.length < 8 → s.latch e = s.putAnswers { s.answers with
        latches := s.answers.latches ||| e.bit
        queue := s.answers.queue ++
          [{ tag := 0, result := .alert, data := be16 ((s.answers.latches ||| e.bit).setWidth 16), ofRestart := false }] }) ∧
      (8 ≤ s.answers.queue.length → s.latch e = s.putAnswers { s.answers with
        latches := s.answers.latches ||| e.bit ||| Event.answerLost.bit
        lost := min 255 (s.answers.lost + 1) }))) ∧
  (∀ (s : State) (a : Answer),
    (s.listenOnly = true → s.queueAnswer a = s) ∧
    (s.listenOnly = false → s.answers.queue.length < 8 →
      s.queueAnswer a = s.putAnswers { s.answers with queue := s.answers.queue ++ [a] }) ∧
    (s.listenOnly = false → 8 ≤ s.answers.queue.length → s.queueAnswer a = dropped s)) ∧
  (∀ (o : OrderMsg) (s : State), o.target = s.siteAddress → s.listenOnly = false → 8 ≤ s.answers.queue.length →
    (o.args = [] → exec (.poll o) s = .next (dropped (s.clockAt o.time))) ∧
    (o.args ≠ [] → ∀ c ∈ bareCommands, exec (c o) s = .next (dropped (s.clockAt o.time))) ∧
    (∀ c ∈ orderCommands, ∃ t, exec (c o) s = .next t ∧ t.answers.queue = s.answers.queue) ∧
    (∀ c ∈ promptCommands, ∃ t, exec (c o) s = .next t ∧ t.latched .answerLost = true ∧ 1 ≤ t.answers.lost))

/-- The answer queue never holds more than 8 answers, and the lost count never more than 255: every step keeps it so. -/
def Obligations.AnswersBounded : Prop := ∀ s t : State, AnswersOk s → step s = .next t → AnswersOk t

/-- A part in listen-only queues no answer of any kind and counts none as lost: every step keeps it so. -/
def Obligations.ListenOnlySilent : Prop := ∀ s t : State, ListenOk s → step s = .next t → ListenOk t

/-- The three bytes of the status summary, field by field. -/
def Obligations.StatusSummaryBits : Prop :=
  ∀ s : State,
    (s.summary1.extractLsb' 6 2 = match s.monitor.state with | .absent => 0#2 | .good => 1#2 | .degraded => 2#2 | .lost => 3#2) ∧
    (s.summary1.extractLsb' 3 3 = match s.timebase.mode with
      | .stopped => 0#3 | .awaitSync => 1#3 | .priming => 2#3 | .running => 3#3 | .holdover => 4#3) ∧
    s.summary1.getLsbD 2 = s.answers.marker ∧
    s.summary1.getLsbD 1 = (s.preset.op != .idle) ∧
    s.summary1.getLsbD 0 = (s.answers.latches != 0) ∧
    (∀ n : LaneNo, s.summary2.getLsbD (4 + n.val) = (s.lanes[n].mode == .onAir)) ∧
    s.summary2.getLsbD 3 = s.guard ∧ s.summary2.getLsbD 2 = s.protect.lock ∧ s.summary2.extractLsb' 0 2 = 0#2 ∧
    (∀ n : LaneNo, s.summary3.extractLsb' (2 * n.val) 2 =
      match s.lanes[n].stack.getLast?.map Level.kind with
        | none => 0#2 | some .regular => 1#2 | some .bulletin => 2#2 | some .urgent => 3#2)

/-- The answers inserted into free space that begins at `p` are the longest beginning of the queue that fits below position 64: none passes one that
does not fit. -/
def Obligations.InsertionTakesPrefix : Prop :=
  ∀ (p : Nat) (q : List Answer), p ≤ 64 →
    ∃ rest, q = fitting p q ++ rest ∧ p + ((fitting p q).map (fun a => 9 + a.data.length)).sum ≤ 64 ∧
      ∀ a more, rest = a :: more → 64 < p + ((fitting p q).map (fun a => 9 + a.data.length)).sum + (9 + a.data.length)

/-! ### Feed -/

/-- The quality window holds at most 50 outcomes and the bad count is the number of bad ones among them: every step keeps it so. -/
def Obligations.WindowCountsBad : Prop := ∀ s t : State, WindowOk s → step s = .next t → WindowOk t

/-- An outcome in the feed monitor. ABSENT and LOST leave at a complete frame alone, with a window of that outcome; then, as in GOOD, the bad count is
compared with the high threshold, and in DEGRADED with the low one. The events of these changes latch, FEED_RESTORED before FEED_DEGRADED, and no
other. The hold episode follows the report of each new state, and one that begins under a hold limit of 0 fires at once, on every lane that is ON_AIR.
Nothing else changes. That a return from LOST that degrades at once ends an episode and begins one is the model's reading (assumption 28). -/
def Obligations.OutcomeRules : Prop :=
  ∀ (s : State) (complete bad : Bool), WindowOk s →
    let t := s.recordOutcome complete bad
    let site := s.tables.site
    let back := complete = true ∧ (s.monitor.state = .absent ∨ s.monitor.state = .lost)
    let w := if back then [bad] else s.monitor.window.drop (s.monitor.window.length - 49) ++ [bad]
    let degrades := (back ∨ s.monitor.state = .good) ∧ site.highThreshold ≤ w.count true
    let recovers := s.monitor.state = .degraded ∧ w.count true ≤ site.lowThreshold
    let events := (if recovers ∨ (back ∧ s.monitor.state = .lost) then [Event.feedRestored] else []) ++
      (if degrades then [Event.feedDegraded] else [])
    let kept := if back ∨ recovers then reported s.hold false site.holdLimit else s.hold
    t = { s with
      monitor := {
        state := if degrades then .degraded else if back ∨ recovers then .good else s.monitor.state
        window := w, bad := w.count true, lostAt := s.monitor.lostAt }
      hold := if degrades then reported kept site.holdoverOnDegraded site.holdLimit else kept
      lanes := t.lanes
      answers := (s.latchAll events).answers } ∧
    (∀ n : LaneNo, t.lanes[n] =
      if degrades then held s.lanes[n] (firesAt kept site.holdoverOnDegraded site.holdLimit) else s.lanes[n]) ∧
    ∀ e ∈ events, t.latched e = true

/-- SYNC_PATTERN_SEEN begins a frame with this instant as its sync time and restarts the LOST timer, and truncates a frame in progress, whose bad
outcome the feed monitor records; LOST_TIMER_EXPIRY abandons a frame in progress with its bad outcome, takes GOOD and DEGRADED to LOST with FEED_LOST,
which begins a hold episode where none is in progress, and stops until a pattern is seen; FRAME_FORWARD begins the oldest complete frame on FEED OUT.
A frame is on FEED OUT, with its audio on AUDIO OUT, until its 551 bytes have gone at the rate at which 548 of them came, and between frames both
lines are idle (the reading of a frame's end and of AUDIO OUT is assumption 26). -/
def Obligations.FeedEventResults : Prop :=
  (∀ (t : Micros) (s : State),
    let now := s.clockAt t
    let r := if s.feed.inProgress.isSome = true then now.recordOutcome false true else now
    exec (.syncPatternSeen t) s = .next { r with
      feed := { now.feed with inProgress := some now.clock }, monitor := { r.monitor with lostAt := some (now.clock + 100000) } }) ∧
  (∀ (s : State) (d : Micros), s.monitor.lostAt = some d →
    let now := s.clockTo d
    let r := if s.feed.inProgress.isSome = true then now.recordOutcome false true else now
    ∃ u, exec .lostTimerExpiry s = .next u ∧
      (s.monitor.state = .absent ∨ s.monitor.state = .lost →
        u = { now with feed := { now.feed with inProgress := none }, monitor := { r.monitor with lostAt := none } } ∧
        u.monitor.state = s.monitor.state) ∧
      (s.monitor.state = .good ∨ s.monitor.state = .degraded →
        u = { r with
          feed := { now.feed with inProgress := none }, monitor := { r.monitor with state := .lost, lostAt := none }
          hold := reported r.hold true s.tables.site.holdLimit, lanes := u.lanes, answers := (r.latch .feedLost).answers } ∧
        (∀ n : LaneNo, u.lanes[n] = held r.lanes[n] (firesAt r.hold true s.tables.site.holdLimit)) ∧
        u.latched .feedLost = true) ∧
      (HoldOk s → HoldOk u)) ∧
  (∀ (s : State) (f : Forward) (rest : List Forward), s.feed.forwards = f :: rest →
    exec .frameForward s = .next ((s.clockTo f.start).putFeed { (s.clockTo f.start).feed with forwards := rest, sending := some f })) ∧
  (∀ (s : State) (f : Forward), s.feed.sending = some f →
    let gone := 548 * sdiff s.clock f.start
    (gone < 551 * (f.span : Int) →
      s.feedOut = some (frameBytes f.frame) ∧ s.audioOut = some f.frame.audio ∧
        s.feedOutByte = some (byteAt (frameBytes f.frame) (gone / f.span).toNat)) ∧
    (551 * (f.span : Int) ≤ gone → s.feedOut = none ∧ s.audioOut = none ∧ s.feedOutByte = none) ∧
    (∀ t, (s.clockAt t).feed.sending =
      if 551 * (f.span : Int) ≤ 548 * (sdiff s.clock f.start + (t - s.clock).toNat) then none else some f) ∧
    (∀ t, atOrBefore s.clock t = true → 551 * (f.span : Int) ≤ 548 * sdiff t f.start → (s.clockTo t).feed.sending = none)) ∧
  (∀ s : State, s.feed.sending = none → s.feedOut = none ∧ s.audioOut = none ∧ s.feedOutByte = none)

/-- A complete frame that is bad is forwarded exactly as it came, 250 µs after its completion, and none of its messages is taken: only the feed port,
and, by the frame's bad outcome and by a pattern that ends it, the feed monitor, the hold, a hold that fires at its lanes, and the answer unit's
latches and alerts can change. That a pattern that ends at the frame's 551st byte restarts the LOST timer is the model's reading (assumption 27). -/
def Obligations.BadFrameResult : Prop :=
  ∀ (a : Arrival) (s : State) (tN : Micros), s.feed.inProgress = some tN → a.frame.arrivable = true → a.frame.good = false →
    let now := s.clockAt a.time
    let r := now.recordOutcome true true
    ∃ t, exec (.feedFrameComplete a) s = .next t ∧
      t = { now with
        feed := { now.feed with
          inProgress := none
          forwards := s.feed.forwards ++ [{ start := now.clock + 250, span := (sdiff now.clock tN).toNat, frame := a.frame }] }
        monitor := { r.monitor with lostAt := if a.frame.endsInPattern = true then some (now.clock + 100000) else s.monitor.lostAt }
        hold := r.hold
        lanes := r.lanes
        answers := r.answers } ∧
      t.monitor.window.getLast? = some true ∧
      t.answers.mask = s.answers.mask ∧ t.answers.marker = s.answers.marker ∧ t.answers.restartAt = s.answers.restartAt

/-- A complete frame that is good is forwarded once, 250 µs after its completion, behind those that wait, with its frame word and its audio payload
unchanged, 64 ancillary bytes and a check that is theirs, whatever its messages do to the part. Its messages act as the parse of its field takes them,
after the frame's outcome where that comes first (assumption 14): with no restart pending after the parse nothing else changes but the feed port, the
answer unit, and what the outcome changes where it comes later; a field that was not parsed to its end is forwarded as the parse leaves it, and of one
that was, the part before the free space. A DONE of a RESTART that goes into the free space takes the restart at that instant. The model's readings
and choices in it: a pattern that ends at the 551st byte restarts the LOST timer (assumption 27); the insertion, and with it the restart, falls at the
frame's completion (assumption 43); the restart loses records and triggers on their way and leaves a last built frame of 0 (assumptions 15 and 16). -/
def Obligations.GoodFrameForwarded : Prop :=
  ∀ (a : Arrival) (s : State) (tN : Micros), s.feed.inProgress = some tN → a.frame.arrivable = true → a.frame.good = true →
    let now := s.clockAt a.time
    let base := { now with
      feed := { now.feed with inProgress := none }
      monitor := { s.monitor with lostAt := if a.frame.endsInPattern = true then some (now.clock + 100000) else s.monitor.lostAt } }
    let q := (base.outcomeAt a .beforeParse).parseField a tN
    let u := if a.outcomeAt = .beforeParse then q.part.state else q.part.state.recordOutcome true false
    ∃ t f, exec (.feedFrameComplete a) s = .next t ∧
      t.feed = { now.feed with
        inProgress := none
        forwards := s.feed.forwards ++ [{ start := now.clock + 250, span := (sdiff now.clock tN).toNat, frame := f }] } ∧
      f.word = a.frame.word ∧ f.audio = a.frame.audio ∧ f.anc.length = 64 ∧ f.good = true ∧
      (q.part.state.answers.restartAt = none →
        t = { u with feed := t.feed, answers := t.answers } ∧
        t.answers.restartAt = none ∧ t.answers.mask = q.part.state.answers.mask ∧ t.answers.marker = q.part.state.answers.marker ∧
        (q.free = none → f.anc = q.field) ∧ (∀ p, q.free = some p → f.anc.take p = q.field.take p)) ∧
      (∀ p, q.free = some p → q.part.state.answers.restartAt.isSome = true → a.deadlineFirst = false →
        (∃ x ∈ fitting p q.part.state.answers.queue, x.ofRestart = true) →
        t.clock = q.part.state.clock ∧ t.siteAddress = a.reset.address ∧ t.tables = q.part.state.tables ∧ t.timebase = Timebase.reset ∧
        (∀ n : LaneNo, t.lanes[n] = Lane.reset) ∧ (∀ z : Zone, t.titles[z] = TitleRecord.empty) ∧ t.recentCues = [] ∧
        t.answers.queue = [] ∧ t.answers.restartAt = none ∧ t.preset.op = .startUp { next := 0, image := none, defaulted := 0 })

/-- A good frame with an empty field, with every alert closed and no restart pending: the answers that fit are written from byte 0, each with the
status of the part at the insertion, with the frame's outcome in it or not as the command says (assumption 14), 0x00 fills the rest, and those answers
leave the queue; of the rest of the part only what the outcome changes is changed. That a pattern that ends at the frame's 551st byte restarts the
LOST timer is the model's reading (assumption 27), and that the insertion falls at the frame's completion is its choice (assumption 43). -/
def Obligations.EmptyFieldTakesAnswers : Prop :=
  ∀ (a : Arrival) (s : State) (tN : Micros), s.feed.inProgress = some tN → a.frame.arrivable = true → a.frame.good = true →
    byteAt a.frame.anc 0 = 0 → s.answers.mask = 0 → s.answers.restartAt = none →
    let now := s.clockAt a.time
    let base := { now with
      monitor := { s.monitor with lostAt := if a.frame.endsInPattern = true then some (now.clock + 100000) else s.monitor.lostAt } }
    let r := base.recordOutcome true false
    let u := if a.outcomeAt = .beforeParse ∨ a.outcomeAt = .beforeInsertion then r else base
    let written := (fitting 0 s.answers.queue).flatMap u.answerMessage
    ∃ (t : State) (f : Forward), exec (.feedFrameComplete a) s = .next t ∧ t.feed.forwards = s.feed.forwards ++ [f] ∧
      f.frame.anc = written ++ List.replicate (64 - written.length) 0 ∧
      t = { now with
        feed := t.feed, monitor := r.monitor, hold := r.hold, lanes := r.lanes
        answers := { r.answers with queue := s.answers.queue.drop (fitting 0 s.answers.queue).length } }

/-- The parse of a field that begins with messages, each of which the part takes as the one before left it: it takes them all in field order, and
leaves those that stay, with what stood behind them moved up against them and zeros behind it. At a zero, or at the field's end, the free space begins
there; at a byte that begins a message running past the field, or one that is not taken, the parse stops there. A message is taken by its kind: a CUE
of 6 bytes by the cue unit, a TITLE by the item store, an ORDER of 3 bytes and more by the order unit, when it is to 255 or, outside listen-only, to
the part's own address, and then it leaves the field; an ANSWER passes; of any other form or kind none is taken. The order unit does with an order's
code what the command of that code does. What leaves the field is its own bytes alone: those before stay, those behind move toward byte 0, and as many
zeros come in at the end. -/
def Obligations.CompactionMovesBytes : Prop :=
  (∀ (field : List Byte) (p m : Nat), field.length = 64 → p + m ≤ 64 →
    (compact field p m).length = 64 ∧
    (∀ i, i < p → byteAt (compact field p m) i = byteAt field i) ∧
    (∀ i, p ≤ i → i < 64 - m → byteAt (compact field p m) i = byteAt field (i + m)) ∧
    (∀ i, 64 - m ≤ i → byteAt (compact field p m) i = 0)) ∧
  (∀ (carrier : FeedNo) (tN : Micros) (c c' : Chosen) (ms kept : List (Byte × List Byte)) (tail : List Byte),
    (ms.flatMap messageBytes ++ tail).length = 64 → takeAll carrier tN c ms = some (c', kept) →
    let parsed := parseFrom carrier tN 64 0 { part := c, field := ms.flatMap messageBytes ++ tail, free := none }
    let front := kept.flatMap messageBytes
    let back := tail ++ List.replicate (64 - front.length - tail.length) 0
    let size := 2 + (byteAt back 1).toNat
    (byteAt back 0 = 0 → parsed = { part := c', field := front ++ back, free := some front.length }) ∧
    (byteAt back 0 ≠ 0 →
      front.length = 63 ∨ 64 < front.length + size ∨ takeMessage carrier tN (byteAt back 0) ((back.drop 2).take (size - 2)) c' = none →
      parsed = { part := c', field := front ++ back, free := none })) ∧
  (∀ (carrier : FeedNo) (tN : Micros) (body : List Byte) (c : Chosen),
    (∀ k, k ≠ kindCue → k ≠ kindTitle → k ≠ kindOrder → k ≠ kindAnswer → takeMessage carrier tN k body c = none) ∧
    (takeMessage carrier tN kindAnswer body c = some (c, false)) ∧
    (body.length ≠ 6 → takeMessage carrier tN kindCue body c = none) ∧
    (∀ num kind m1 m2 f1 f2, body = [num, kind, m1, m2, f1, f2] →
      takeMessage carrier tN kindCue body c = some (c.takeCue
        { number := num, kind := TransKind.ofCode? kind, mask := m1 ++ m2, effective := (f1 ++ f2).setWidth 12, carrier := carrier,
          syncTime := tN }, false)) ∧
    (∀ m1 m2 n text, body = m1 :: m2 :: n :: text →
      takeMessage carrier tN kindTitle body c =
        if n.toNat ≤ 45 ∧ text.length = n.toNat then
          some ({ c with state := c.state.takeTitle { mask := m1 ++ m2, length := n.toNat, text := text } }, false)
        else none) ∧
    (body.length < 3 → takeMessage carrier tN kindTitle body c = none ∧ takeMessage carrier tN kindOrder body c = none) ∧
    (∀ target tag code args, body = target :: tag :: code :: args →
      takeMessage carrier tN kindOrder body c =
        if target = 255 then
          some ({ c with state := c.state.handOrder code.toNat args { tag := tag, answered := false } }, false)
        else if c.state.listenOnly = false ∧ target = c.state.siteAddress then
          some ({ c with state := c.state.handOrder code.toNat args { tag := tag, answered := true } }, true)
        else some (c, false))) ∧
  (∀ (k : Nat) (c : OrderMsg → Instr) (o : OrderMsg) (s : State), orderCommands[k]? = some c →
    o.target = 255 ∨ (s.listenOnly = false ∧ o.target = s.siteAddress) →
    exec (c o) s = .next ((s.clockAt o.time).handOrder (k + 1) o.args { tag := o.tag, answered := decide (o.target ≠ 255) }))

/-! ### The feed-loss hold -/

/-- The episode flag is set exactly while the feed monitor reports holdover, and outside an episode nothing is counted or fired: every step keeps it
so. That a firing to come is marked, and ends with its episode, is the model's choice (assumption 18). -/
def Obligations.HoldFollowsReport : Prop := ∀ s t : State, HoldOk s → step s = .next t → HoldOk t

/-! ### Lanes, bulletin units, scheduler -/

/-- An ON_AIR lane's stack has one of the four shapes, REGULAR below BULLETIN below URGENT, with the fields of each level's kind, and its queues are
within their bounds; a lane that is OFF or WAITING holds nothing of the air: every step keeps it so, over tables in range. That nothing is on its way
to such a lane is the model's choice (assumption 15). -/
def Obligations.LaneShapesKept : Prop := ∀ s t : State, LanesOk s → TablesOk s → step s = .next t → LanesOk t

/-- A build whole. Step 1 takes the records due, those at the schedule's front whose target is at or before the frame, and applies them in order; step
2 removes the levels at their ceiling; step 3, with hold-pending set, those entered before the frame, and clears the flag; step 4 finds B, set under a
top level of BULLETIN or URGENT, and U, under URGENT, and posts for each that differs from the previous frame's a trigger, B before U, with the
frame's line start and the audio time of what caused it. Stray ENDs, ceilings and hold removals each latch their event. At position 0 the frame is a
HEAD frame, at the others it carries what the selection gives, each with T, B and U in its header and the check in each of its words; a join frame is
a HEAD frame with B and U clear and sequence number 0. The frame on a lane line is sent bit by bit, word 0 first and each word from its bit 31, and
the line idles low with its bit clock still while there is none (the lines as functions of the state: assumption 32). -/
def Obligations.BuiltFrameFlags : Prop :=
  (∀ (x : Store) (f : LineFrame) (l : Lane),
    let due := l.schedule.takeWhile (fun q => atOrBefore q.target f.number)
    let applied := fun n : Nat => (due.take n).foldl (fun (m : Lane) (q : Transition) => (x.applyTransition f.number m q).1)
      { l with schedule := l.schedule.drop due.length }
    let strays := fun n : Nat => match due[n]? with
      | some q => (x.applyTransition f.number (applied n) q).2
      | none => false
    let stack1 := (applied due.length).stack
    let stack2 := stack1.filter (fun v => match v.life with
      | some life => decide (sdiff f.number life.entryFrame < 8 * (life.ceiling : Int))
      | none => true)
    let stack3 := if l.holdPending = true then
        stack2.filter (fun v => match v.life with
          | some life => decide (0 ≤ sdiff life.entryFrame f.number)
          | none => true)
      else stack2
    let isB := fun stack : List Level => topKind stack == some .bulletin || topKind stack == some .urgent
    let isU := fun stack : List Level => topKind stack == some .urgent
    let b := isB stack3
    let u := isU stack3
    let r := x.build f l
    ∃ (fr : AirFrame) (bAudio uAudio : Option Micros),
      AudioOf due (fun n => isB (applied n).stack) b bAudio ∧ AudioOf due (fun n => isU (applied n).stack) u uAudio ∧
      r.events = (if (List.range due.length).any strays = true then [Event.strayEnd] else []) ++
        (if stack2.length < stack1.length then [Event.ceilingEnd] else []) ++
        (if stack3.length < stack2.length then [Event.holdEnd] else []) ∧
      (let settled : Lane := { applied due.length with
          stack := stack3, holdPending := false, prevB := b, prevU := u
          triggers := l.triggers ++
            (if b = l.prevB then [] else [{ edge := if b then .bUp else .bDown, line := f.start, audio := bAudio }]) ++
            (if u = l.prevU then [] else [{ edge := if u then .uUp else .uDown, line := f.start, audio := uAudio }]) }
        if f.position = 0 then
          r.lane = { settled with inBuild := some fr, lastBuilt := f.number } ∧ HeadIs x f fr b u settled.sequence
        else
          r.lane = { (x.select settled).2 with inBuild := some fr, lastBuilt := f.number } ∧ ContentIs x f fr b u (x.select settled).1) ∧
      r.lane.inBuild = some fr ∧ fr.number = f.number ∧ fr.bit 4 = x.entry.traffic ∧
      fr.bit 5 = (topKind r.lane.stack == some .bulletin || topKind r.lane.stack == some .urgent) ∧
      fr.bit 6 = (topKind r.lane.stack == some .urgent) ∧ (fr.bit 6 = true → fr.bit 5 = true)) ∧
  (∀ (x : Store) (f : LineFrame) (l : Lane),
    ∃ fr, x.joinBuild f l = { l with inBuild := some fr, lastBuilt := f.number } ∧ HeadIs x f fr false false 0) ∧
  (∀ (fr : AirFrame) (i : Fin 32), fr.bit i.val = fr.word0.getLsbD (31 - i.val) ∧ fr.bit (32 + i.val) = fr.word1.getLsbD (31 - i.val) ∧
    fr.bit (64 + i.val) = fr.word2.getLsbD (31 - i.val) ∧ fr.bit (96 + i.val) = fr.word3.getLsbD (31 - i.val)) ∧
  (∀ (s : State) (n : LaneNo),
    (∀ fr f, s.lanes[n].onLine = some fr → s.timebase.onLine = some f → s.bitClock n = true ∧
      ∀ i : Nat, i < 128 → 625 * (i : Int) ≤ sdiff s.clock f.start → sdiff s.clock f.start < 625 * ((i : Int) + 1) →
        s.laneLevel n = fr.bit i) ∧
    (s.lanes[n].onLine = none → s.laneLevel n = false ∧ s.bitClock n = false))

/-- Only a build, a join, a lane's leaving the air, a ceiling and a reset change a level stack: every command in which none of them comes about leaves
every stack. -/
def Obligations.StacksChangeAtBuildsOnly : Prop :=
  ∀ (c : Instr) (s t : State), leavesStacks c = true → exec c s = .next t → ∀ n : LaneNo, t.lanes[n].stack = s.lanes[n].stack

/-- The four transitions on a stack of an ON_AIR lane: a BULLETIN level enters directly above REGULAR and raises the sequence number, an URGENT level
enters on top, each with its entry frame, a new cursor and its ceiling from the LANE entry; a START whose level is present changes nothing; an END
removes its level and leaves the others, and without one is stray and changes nothing. -/
def Obligations.TransitionsApplied : Prop :=
  ∀ (x : Store) (k : AirNo) (l : Lane) (r : Transition), stackShape l.stack = true →
    let t := (x.applyTransition k l r).1
    let stray := (x.applyTransition k l r).2
    stackShape t.stack = true ∧
    (r.kind = .bulletinStart → stray = false ∧
      (holds l.stack .bulletin = true → t = l) ∧
      (holds l.stack .bulletin = false →
        t = { l with
          stack := l.stack.take 1 ++
            [{ kind := .bulletin, cursor := { entry := 0, visit := none, progress := 0 },
               life := some { entryFrame := k, ceiling := x.entry.bulletinCeiling } }] ++ l.stack.drop 1
          sequence := l.sequence + 1 })) ∧
    (r.kind = .urgentStart → stray = false ∧
      (holds l.stack .urgent = true → t = l) ∧
      (holds l.stack .urgent = false →
        t = { l with
          stack := l.stack ++
            [{ kind := .urgent, cursor := { entry := 0, visit := none, progress := 0 },
               life := some { entryFrame := k, ceiling := x.entry.urgentCeiling } }] })) ∧
    (r.kind = .bulletinEnd → stray = !holds l.stack .bulletin ∧ t = { l with stack := l.stack.filter (fun v => v.kind != .bulletin) }) ∧
    (r.kind = .urgentEnd → stray = !holds l.stack .urgent ∧ t = { l with stack := l.stack.filter (fun v => v.kind != .urgent) })

/-- RECORD_ARRIVES at an ON_AIR lane with room: a target after the last built frame is scheduled as it is, one at or before it is raised to the next
frame, late, with CUE_LATE; behind every record due no later. At a full schedule it is dropped with SCHEDULE_FULL. CEILING_END removes the levels
whose age in frames has reached 8 times their ceiling, and latches if one went; as a command of its own it goes by the last built frame (assumption
17). HOLD_FIRES sets the fired flag and every ON_AIR lane's hold-pending flag, a firing to come being marked (assumption 18). -/
def Obligations.LaneEventResults : Prop :=
  (∀ (s : State) (n : LaneNo) (i : Nat) (r : Transition), s.lanes[n].mode = .onAir → s.lanes[n].records[i]? = some r →
    let late := atOrBefore r.target s.lanes[n].lastBuilt
    let r' : Transition := if late then { r with target := s.lanes[n].lastBuilt + 1, late := true } else r
    (s.lanes[n].schedule.length < 8 →
      ∃ t before after, exec (.recordArrives n i) s = .next t ∧ s.lanes[n].schedule = before ++ after ∧
        t.lanes[n] = { s.lanes[n] with records := s.lanes[n].records.eraseIdx i, schedule := before ++ [r'] ++ after } ∧
        (∀ q ∈ before, atOrBefore q.target r'.target = true) ∧ (∀ q, after.head? = some q → atOrBefore q.target r'.target = false) ∧
        (late = true → t.latched .cueLate = true) ∧ (late = false → t.answers = s.answers) ∧
        ∀ m : LaneNo, m ≠ n → t.lanes[m] = s.lanes[m]) ∧
    (8 ≤ s.lanes[n].schedule.length →
      ∃ t, exec (.recordArrives n i) s = .next t ∧ t.latched .scheduleFull = true ∧
        t.lanes[n] = { s.lanes[n] with records := s.lanes[n].records.eraseIdx i })) ∧
  (∀ (s : State) (n : LaneNo),
    ∃ t, exec (.ceilingEnd n) s = .next t ∧
      t.lanes[n].stack = s.lanes[n].stack.filter (fun v => match v.life with
        | some life => decide (sdiff s.lanes[n].lastBuilt life.entryFrame < 8 * (life.ceiling : Int))
        | none => true) ∧
      (t.lanes[n].stack ≠ s.lanes[n].stack → t.latched .ceilingEnd = true) ∧
      (t.lanes[n].stack = s.lanes[n].stack → t = s) ∧ ∀ m : LaneNo, m ≠ n → t.lanes[m] = s.lanes[m]) ∧
  (∀ s : State, s.hold.due = true →
    ∃ t, exec .holdFires s = .next t ∧ t.hold = { s.hold with fired := true, due := false } ∧
      ∀ n : LaneNo, t.lanes[n] = if s.lanes[n].mode = .onAir then { s.lanes[n] with holdPending := true } else s.lanes[n])

/-- LINE_START of the built frame. The frame reference moves to it and it is on the line, the next frame is built for a line start 80,000 µs later,
number and position go up by one, and the cycle count after a frame of position 0. At position 0, RUNNING or in HOLDOVER, it is a cycle start: an
episode that has not fired counts it and compares the count with the hold limit; a cue line in REPEAT, with trigger edge START or BOTH and the
followed level up, starts a train if none runs; a MASTER schedules a pulse at divisor count 0 and counts. An ON_AIR lane with no stop request puts its
frame in build on the line and builds the next; with one it leaves the air; a WAITING lane with a join frame goes ON_AIR with it and builds the next;
one without makes its join build at position 0. A frame of an old grid on the line ends first, as FINAL_FRAME_END has it. The model's choices in it:
the lanes act in the order of the operand (assumption 2), each with its latches (assumption 40); a firing that is marked falls after as many of them
as the operand says, or in a step of its own (assumption 18); the cycle start comes before the edges that the builds post (assumption 34); records and
triggers on their way are lost with a lane's clearing (assumption 15). -/
def Obligations.LineStartResult : Prop :=
  (∀ (fire : Option Nat) (order : List LaneNo) (s : State) (f : LineFrame) (c : Counts), s.timebase.built = some f →
    s.timebase.lastOfGrid = false → s.timebase.counts = some c →
    let cycle := f.position = 0 ∧ (s.timebase.mode = .running ∨ s.timebase.mode = .holdover)
    let next : LineFrame := { number := c.number, position := c.position, start := f.start + 80000, cycle := c.cycle }
    let hold := if cycle ∧ s.hold.episode = true ∧ s.hold.fired = false ∧ s.hold.due = false then
        { s.hold with count := s.hold.count + 1, due := decide (s.tables.site.holdLimit ≤ s.hold.count + 1) }
      else s.hold
    let fires := fire.isSome && hold.due
    let early := fun n : LaneNo => ((orderOf order).take (fire.getD 0)).contains n
    let master := cycle ∧ s.tables.site.role = .master
    let cue := fun n : LaneNo =>
      if cycle ∧ s.tables.cueLines[n].mode = .repeating ∧ s.tables.cueLines[n].edge ≠ .finish ∧ s.lanes[n].cue.followed = true ∧
          s.lanes[n].cue.train = .idle then
        started s.lanes[n].cue s.tables.cueLines[n] f.start
      else s.lanes[n].cue
    let built := fun (n : LaneNo) (l : Lane) => (s.store n).build next l
    let going := fun n : LaneNo => match s.lanes[n].mode with
      | .off => none
      | .waiting => if s.lanes[n].inBuild = none then none else
        some { s.lanes[n] with
          mode := .onAir, onLine := s.lanes[n].inBuild, inBuild := none, stack := [Level.regular], schedule := [], sequence := 0
          prevB := false, prevU := false, queue := [], serving := none, cue := cue n }
      | .onAir => if s.lanes[n].stop ≠ .none then none else
        some { s.lanes[n] with
          onLine := s.lanes[n].inBuild, inBuild := none, holdPending := s.lanes[n].holdPending || (fires && !early n), cue := cue n }
    ∃ t, exec (.lineStart fire order) s = .next t ∧
      t = { s.clockTo f.start with
        lanes := t.lanes
        timebase := { s.timebase with
          reference := some { number := f.number, start := f.start }, onLine := some f, built := some next
          counts := some { number := c.number + 1, position := c.position + 1, cycle := if c.position = 0 then c.cycle + 1 else c.cycle }
          divisorCount := if master then
              (if s.tables.site.divisor ≤ s.timebase.divisorCount + 1 then 0 else s.timebase.divisorCount + 1)
            else s.timebase.divisorCount }
        sync := if master ∧ s.timebase.divisorCount = 0 then
            { s.sync with pulseAt := some (f.start + BitVec.ofNat 32 (s.tables.site.outOffset * 625)) } else s.sync
        hold := if fires then { hold with fired := true, due := false } else hold
        answers := (s.latchAll ((orderOf order).flatMap (fun n => ((going n).map (fun l => (built n l).events)).getD []))).answers } ∧
      ∀ n : LaneNo,
        (∀ l, going n = some l → t.lanes[n] = held (built n l).lane (fires && early n) ∧
          t.lanes[n].mode = .onAir ∧ t.lanes[n].onLine = s.lanes[n].inBuild ∧ t.lanes[n].lastBuilt = c.number ∧
          t.lanes[n].inBuild.isSome = true ∧ ∀ e ∈ (built n l).events, t.latched e = true) ∧
        (going n = none →
          (s.lanes[n].mode = .onAir → t.lanes[n] = cleared s.lanes[n] (s.lanes[n].stop == .toOff)) ∧
          (s.lanes[n].mode = .waiting →
            if c.position = 0 ∧ (s.timebase.mode = .running ∨ s.timebase.mode = .holdover) ∧ s.tables.lane[n].station ≠ 0 then
              ∃ fr, t.lanes[n] = { s.lanes[n] with inBuild := some fr, lastBuilt := c.number, cue := cue n } ∧
                HeadIs (s.store n) next fr false false 0
            else t.lanes[n] = { s.lanes[n] with cue := cue n }) ∧
          (s.lanes[n].mode = .off → t.lanes[n] = { s.lanes[n] with cue := cue n }))) ∧
  (∀ (fire : Option Nat) (order : List LaneNo) (s : State) (f old : LineFrame), s.timebase.built = some f → s.timebase.onLine = some old →
    s.timebase.lastOfGrid = true → s.timebase.stopPending = false → f.start = old.start + 80000 →
    ∃ t, exec .finalFrameEnd s = .next t ∧ t.timebase.lastOfGrid = false ∧ exec (.lineStart fire order) s = exec (.lineStart fire order) t)

/-- EARLY_BUILD of a cycle start to come: the clock reaches 80,000 µs before it, the frame of position 0 is built for it, every ON_AIR lane builds it,
and a WAITING lane with a station code and no join frame makes its join frame, RUNNING or in HOLDOVER. FINAL_FRAME_END of a frame with no line start
after it: its lane lines go idle, an ON_AIR lane acts on its stop request, and one without keeps its frame in build; a pending stop takes the timebase
to STOPPED, and every frame in build and join frame is discarded. The model's choices in it: the lanes build in the order of the operand (assumption
2), each with its latches (assumption 40); records and triggers on their way are lost with a lane's clearing (assumption 15), and the divisor counter
stays in STOPPED (assumption 36). -/
def Obligations.GridEdgeResults : Prop :=
  (∀ (order : List LaneNo) (s : State) (c : Micros), s.timebase.earlyFor = some c →
    let counts := s.timebase.nextCounts
    let f : LineFrame := { number := counts.number, position := 0, start := c, cycle := counts.cycle }
    let built := fun n : LaneNo => (s.store n).build f s.lanes[n]
    ∃ t, exec (.earlyBuild order) s = .next t ∧
      t = { s.clockTo (c - 80000) with
        lanes := t.lanes
        timebase := { s.timebase with
          earlyFor := none, built := some f, counts := some { number := counts.number + 1, position := 1, cycle := counts.cycle + 1 } }
        answers := (s.latchAll ((orderOf order).flatMap (fun n => if s.lanes[n].mode = .onAir then (built n).events else []))).answers } ∧
      ∀ n : LaneNo,
        (s.lanes[n].mode = .onAir → t.lanes[n] = (built n).lane ∧ t.lanes[n].mode = .onAir ∧ t.lanes[n].onLine = s.lanes[n].onLine ∧
          (∃ fr, t.lanes[n].inBuild = some fr ∧ fr.number = f.number) ∧ ∀ e ∈ (built n).events, t.latched e = true) ∧
        (s.lanes[n].mode = .waiting →
          if (s.timebase.mode = .running ∨ s.timebase.mode = .holdover) ∧ s.lanes[n].inBuild = none ∧ s.tables.lane[n].station ≠ 0 then
            ∃ fr, t.lanes[n] = { s.lanes[n] with inBuild := some fr, lastBuilt := f.number } ∧ HeadIs (s.store n) f fr false false 0
          else t.lanes[n] = s.lanes[n]) ∧
        (s.lanes[n].mode = .off → t.lanes[n] = s.lanes[n])) ∧
  (∀ (s : State) (f : LineFrame), s.timebase.onLine = some f → s.timebase.lastOfGrid = true →
    let stops := s.timebase.stopPending
    ∃ t, exec .finalFrameEnd s = .next t ∧
      t = { s.clockTo (f.start + 80000) with
        lanes := t.lanes
        timebase := if stops then { Timebase.reset with divisorCount := s.timebase.divisorCount }
          else { s.timebase with onLine := none, lastOfGrid := false }
        sync := if stops then { s.sync with pulseAt := none } else s.sync } ∧
      ∀ n : LaneNo, t.lanes[n] = match s.lanes[n].mode with
        | .off => s.lanes[n]
        | .waiting => { s.lanes[n] with inBuild := if stops then none else s.lanes[n].inBuild }
        | .onAir =>
          if s.lanes[n].stop = .none then
            { s.lanes[n] with onLine := none, inBuild := if stops then none else s.lanes[n].inBuild }
          else cleared s.lanes[n] (s.lanes[n].stop == .toOff))

/-- The stages of a selection over a list. The length check puts a cursor at or beyond the active length back to its start. The visit stage keeps a
visit whose entry is enabled, still means the visit's item, is sendable and has frames of its burst left, and else searches, from the next entry, or
from the cursor's own where there is no visit, for a new visit. The send stage sends the segment at the item's cursor, which moves to the next or,
after the last, to 0, and counts the frame; a visit that reaches its burst ends and the search moves the cursor on at once; without a visit the frame
is FILL. An item's segment cursor is its own. An index or an active length out of range, which only a preset record can give, is assumption 8. -/
def Obligations.LengthCheck : Prop :=
  (∀ (x : Store) (k : LevelKind) (c : Cursor),
    (x.listLength k ≤ c.entry → x.lengthCheck k c = { entry := 0, visit := none, progress := 0 }) ∧
    (c.entry < x.listLength k → x.lengthCheck k c = c) ∧
    (x.listLength k = 0 → x.search k (x.lengthCheck k c).entry = none)) ∧
  (∀ (x : Store) (k : LevelKind) (c : Cursor),
    (c.visit = none → x.visitStage k c = sought x k c c.entry) ∧
    (∀ it, c.visit = some it →
      let e := x.listEntry k c.entry
      x.visitStage k c =
        if e.enabled = true ∧ it = x.item e ∧ x.hasContent it = true ∧ c.progress < e.burst then c else sought x k c (c.entry + 1))) ∧
  (∀ (x : Store) (k : LevelKind) (c : Cursor) (segs : SegCursors),
    (c.visit = none → x.sendStage k c segs = ({ item := .fill, segment := 0, count := 0 }, c, segs)) ∧
    (∀ it, c.visit = some it →
      let i := segmentOf x segs it
      let n := x.segmentCount it
      let c' : Cursor := { c with progress := c.progress + 1 }
      x.sendStage k c segs =
        ({ item := it, segment := i, count := n },
         (if (x.listEntry k c.entry).burst ≤ c.progress + 1 then sought x k c' (c.entry + 1) else c'),
         segs.put it (if n ≤ i + 1 then 0 else i + 1)))) ∧
  (∀ (segs : SegCursors) (it other : Item) (v : Nat),
    (segs.put it v).get other = if other = it ∧ it ≠ .fill then v else segs.get other)

/-- A selection whole. An entry is sendable when it is enabled and its item has content. The search for the next entry finds the first sendable one in
turn from its start, wrapping after the last entry of the active length; none only when no entry of the list is sendable. Under REGULAR the insertion
queue comes first: a service goes on with its title until its last segment, and ends, its request gone, when the title is empty or has become shorter
than what was sent; between visits of the list a new service begins. What it does not take, and every frame under another level, is the list's; there
a service in progress goes idle and its request stays. An index or an active length out of range, which only a preset record can give, is assumption
8. -/
def Obligations.SearchFindsFirst : Prop :=
  (∀ (x : Store) (k : LevelKind) (start : Nat),
    match x.search k start with
    | some i => i < x.listLength k ∧ x.sendable (x.listEntry k i) = true ∧
        ∃ j, j < x.listLength k ∧ i = (start + j) % x.listLength k ∧
          ∀ j', j' < j → x.sendable (x.listEntry k ((start + j') % x.listLength k)) = false
    | none => ∀ i, i < x.listLength k → x.sendable (x.listEntry k i) = false) ∧
  (∀ (x : Store) (e : ListEntry), x.sendable e = true ↔ e.enabled = true ∧
    match x.item e with
    | .fill => True
    | .name i => x.tables.names[i].isSet = true
    | .title z => x.titles[z].length ≠ 0
    | .neighbour j => x.tables.neighbours[j].count ≠ 0) ∧
  (∀ (x : Store) (l : Lane) (progress : Nat),
    (l.serving = none ∨ l.queue = [] → x.insertionStage l progress = if progress = 0 then offered x l else (none, l)) ∧
    (∀ sent z rest, l.serving = some sent → l.queue = z :: rest →
      let closed := { l with queue := rest, serving := none }
      let r := servedOnce x l z rest sent
      x.insertionStage l progress =
        if x.titles[z].length = 0 ∨ x.segmentCount (.title z) ≤ sent then (if progress = 0 then offered x closed else (none, closed))
        else (some r.1, r.2))) ∧
  (∀ (x : Store) (l : Lane),
    (l.stack = [] → x.select l = ({ item := .fill, segment := 0, count := 0 }, l)) ∧
    (∀ (below : List Level) (top : Level), l.stack = below ++ [top] →
      let c := x.lengthCheck top.kind top.cursor
      let list := fun m : Lane =>
        let r := x.sendStage top.kind (x.visitStage top.kind c) m.segs
        (r.1, { m with stack := below ++ [{ top with cursor := r.2.1 }], segs := r.2.2 })
      (top.kind ≠ .regular → x.select l = list { l with serving := none }) ∧
      (top.kind = .regular → x.select l =
        match x.insertionStage { l with stack := below ++ [{ top with cursor := c }] } c.progress with
        | (some content, m) => (content, m)
        | (none, m) => list m)))

/-- A TITLE: its text is clamped to the characters 0x20 to 0x7E, any other becoming 0x20, and each zone that its mask names is handled against its own
record. A text identical to the record changes nothing; a differing one is stored, padded, with the version advanced, and every ON_AIR lane of that
zone has the title's segment cursor at 0 and the request in its insertion queue, joined as its newest if it was not there and the queue had room; a
service of that title at the queue's head begins again. No other zone, lane or part of the state changes. -/
def Obligations.TitleTaken : Prop :=
  (∀ (s : State) (n : Nat) (text : List Byte) (z : Zone), text.length = n →
    let t := s.titleZone n text z
    (n = s.titles[z].length ∧ text = s.titles[z].text.take n → t = s) ∧
    (¬(n = s.titles[z].length ∧ text = s.titles[z].text.take n) →
      t.titles[z] = { length := n, text := text ++ List.replicate (45 - n) 0x20, version := s.titles[z].version + 1 } ∧
      (∀ y : Zone, y ≠ z → t.titles[y] = s.titles[y]) ∧
      (∀ m : LaneNo, ¬(s.lanes[m].mode = .onAir ∧ s.tables.lane[m].zone = z) → t.lanes[m] = s.lanes[m]) ∧
      (∀ m : LaneNo, s.lanes[m].mode = .onAir → s.tables.lane[m].zone = z →
        t.lanes[m].segs.titles[z] = 0 ∧
        t.lanes[m].queue = (if s.lanes[m].queue.contains z = false ∧ s.lanes[m].queue.length < 4 then s.lanes[m].queue ++ [z]
          else s.lanes[m].queue)))) ∧
  (∀ (s : State) (m : TitleMsg), m.text.length = m.length →
    let t := s.takeTitle m
    let text := m.text.map (fun c => if 0x20 ≤ c.toNat ∧ c.toNat ≤ 0x7E then c else 0x20)
    let changed := fun z : Zone => m.mask.getLsbD z.val = true ∧ ¬(m.length = s.titles[z].length ∧ text = s.titles[z].text.take m.length)
    t = { s with titles := t.titles, lanes := t.lanes } ∧
    (∀ z : Zone, t.titles[z] =
      if changed z then
        { length := m.length, text := text ++ List.replicate (45 - m.length) 0x20, version := s.titles[z].version + 1 }
      else s.titles[z]) ∧
    (∀ n : LaneNo,
      let z := s.tables.lane[n].zone
      let l := s.lanes[n]
      t.lanes[n] =
        if l.mode = .onAir ∧ changed z then
          { l with
            segs := l.segs.put (.title z) 0
            queue := if l.queue.contains z = false ∧ l.queue.length < 4 then l.queue ++ [z] else l.queue
            serving := if l.queue.head? = some z ∧ l.serving.isSome = true then some 0 else l.serving }
        else l))

/-! ### Cues -/

/-- The recent-cue list holds at most 32 cue numbers with none twice: every step keeps it so. -/
def Obligations.RecentCuesKept : Prop := ∀ s t : State, RecentOk s → step s = .next t → RecentOk t

/-- The placing of feed frame F on the site clock, and the two instants of a lane found from it; the record carries the audio time, whatever its
kind. -/
def Obligations.CueTimes : Prop :=
  (∀ (carrier effective : FeedNo) (tN : Micros),
    let m : Nat := (effective.toNat + 4096 - carrier.toNat) % 4096
    let d : Int := if 2048 ≤ m then (m : Int) - 4096 else m
    d ≤ 2047 ∧ -2048 ≤ d ∧ feedTime carrier effective tN = tN + BitVec.ofInt 32 (d * 20000)) ∧
  (∀ (e : LaneEntry) (kind : TransKind) (tF : Micros),
    audioTime e tF = tF + BitVec.ofInt 32 (1000 * e.da) ∧
    lineTarget e kind tF = tF + BitVec.ofInt 32
      (if kind = .bulletinStart ∨ kind = .urgentStart then 1000 * ((e.da : Int) - e.dd - e.lead) else 1000 * ((e.da : Int) - e.dd + e.trail))) ∧
  (∀ (e : LaneEntry) (l : Lane) (ref : FrameRef) (kind : TransKind) (c : CueMsg),
    (alignRecord e l ref kind c).audio = audioTime e (feedTime c.carrier c.effective c.syncTime))

/-- A cue, from its message to the records. One of unknown kind, or with a number on the recent-cue list, changes nothing; else its number joins the
list as its newest, the oldest leaving a full one; and without a frame reference that is all (assumption 30). With one it applies to each lane that is
ON_AIR with traffic yes and is meant by the zone mask, by its own zone or a linked one; each such lane has its record at once or on its way, as the
prompts say, one after another (assumption 12), and CUE_LATE latches for a late one; that the lanes are taken in number order is the model's choice
(assumption 37). The target that the alignment gives, with n the next frame not yet built: a START goes to the last frame whose line start is at or
before its line target, an END to the first at or after its own, counted from the frame reference; one before n is late and goes to n. A START lies at
most 567 frames beyond n. An END is raised to 8 frames after its START, the last of its kind in the schedule or else its level's entry frame, and lies
at most 575 frames beyond n. -/
def Obligations.StartTargetBound : Prop :=
  (∀ (e : LaneEntry) (l : Lane) (ref : FrameRef) (kind : TransKind) (c : CueMsg),
    let r := alignRecord e l ref kind c
    let n := ref.number + 2
    let target := lineTarget e kind (feedTime c.carrier c.effective c.syncTime)
    let raw := rawTarget kind ref target
    (∃ j : Int, raw = ref.number + BitVec.ofInt 16 j ∧
      if kind = .bulletinStart ∨ kind = .urgentStart then 80000 * j ≤ sdiff target ref.start ∧ sdiff target ref.start < 80000 * (j + 1)
      else 80000 * (j - 1) < sdiff target ref.start ∧ sdiff target ref.start ≤ 80000 * j) ∧
    r.kind = kind ∧ r.audio = audioTime e (feedTime c.carrier c.effective c.syncTime) ∧ r.late = decide (sdiff raw n < 0) ∧
    (kind = .bulletinStart ∨ kind = .urgentStart →
      sdiff r.target n = min 567 (max 0 (sdiff raw n)) ∧ 0 ≤ sdiff r.target n ∧ sdiff r.target n ≤ 567 ∧ (r.late = true → r.target = n)) ∧
    (kind = .bulletinEnd ∨ kind = .urgentEnd →
      let level : LevelKind := if kind = .bulletinEnd then .bulletin else .urgent
      let start : TransKind := if kind = .bulletinEnd then .bulletinStart else .urgentStart
      let starts := l.schedule.filter (fun q => q.kind == start)
      let entered := (l.stack.find? (fun v => v.kind == level)).bind (fun v => v.life.map Life.entryFrame)
      (starts = [] → entered = none → sdiff r.target n = min 575 (max 0 (sdiff raw n))) ∧
      (∀ m : AirNo, starts.getLast?.map Transition.target = some m ∨ (starts = [] ∧ entered = some m) →
        -9000 ≤ sdiff m n → sdiff m n ≤ 567 → sdiff raw n ≤ 22000 →
        sdiff r.target n = min 575 (max (max 0 (sdiff raw n)) (sdiff m n + 8))))) ∧
  (∀ (c : Chosen) (m : CueMsg),
    let s := c.state
    let recent := (if s.recentCues.length < 32 then s.recentCues else s.recentCues.drop 1) ++ [m.number]
    (m.kind = none ∨ m.number ∈ s.recentCues → c.takeCue m = c) ∧
    (∀ kind, m.kind = some kind → m.number ∉ s.recentCues →
      (s.timebase.reference = none → c.takeCue m = { c with state := s.putRecentCues recent }) ∧
      (∀ ref, s.timebase.reference = some ref →
        let admitted := fun n : LaneNo => s.lanes[n].mode = .onAir ∧ s.tables.lane[n].traffic = true ∧
          (m.mask.getLsbD s.tables.lane[n].zone.val = true ∨ m.mask &&& s.tables.lane[n].linked ≠ 0)
        let goers := [0, 1, 2, 3].filter (fun n : LaneNo => admitted n)
        let atOnce := fun n : LaneNo => c.prompt.getD (goers.takeWhile (fun m => m != n)).length false
        let r := fun n : LaneNo => alignRecord s.tables.lane[n] s.lanes[n] ref kind m
        let events := fun n : LaneNo => (if (r n).late = true then [Event.cueLate] else []) ++
          (if atOnce n = true then
            (if atOrBefore (r n).target s.lanes[n].lastBuilt = true then [Event.cueLate] else []) ++
              (if 8 ≤ s.lanes[n].schedule.length then [Event.scheduleFull] else [])
          else [])
        let t := (c.takeCue m).state
        (c.takeCue m).prompt = c.prompt.drop goers.length ∧
        t = { s with recentCues := recent, lanes := t.lanes, answers := (s.latchAll (goers.flatMap events)).answers } ∧
        (∀ n ∈ goers, (r n).late = true → t.latched .cueLate = true) ∧
        (∀ n : LaneNo, t.lanes[n] =
          if admitted n then
            (if atOnce n = true then (s.takeRecord n (r n)).lanes[n] else { s.lanes[n] with records := s.lanes[n].records ++ [r n] })
          else s.lanes[n]))))

/-! ### Cue lines -/

/-- TRIGGER_ARRIVES, at the clock's instant (assumption 13): at a lane that is not ON_AIR, in mode OFF, or with an edge of the flag that the line does
not follow, the trigger is discarded; else with room it joins the queue, due its delay after the line time or, by reference AUDIO, the audio time it
carries, and no earlier than now; at a full queue it is dropped with TRIGGER_LOST. TRIGGER_DUE takes the front trigger and handles its edge by mode
and settings: in LEVEL an up edge holds the line active and a down edge releases it; in PULSE and REPEAT a train starts where none runs, and a down
edge under TRUNCATE cuts a running one; in REPEAT the edge moves the followed level, not so with trigger edge END (the model's choice, assumption 35),
and with trigger edge BOTH a down edge gives one closing train, at once or when the running train ends, by a cut too (assumption 33). -/
def Obligations.TriggerResults : Prop :=
  (∀ (s : State) (n : LaneNo) (g : Trigger) (rest : List Trigger), s.lanes[n].triggers = g :: rest →
    let follows := s.lanes[n].mode = .onAir ∧ s.tables.cueLines[n].mode ≠ .off ∧ s.tables.cueLines[n].urgentOnly = g.edge.isUrgent
    let line := if s.tables.cueLines[n].fromAudio then g.audio.getD g.line else g.line
    let due := line + BitVec.ofNat 32 (s.tables.cueLines[n].delay * 5000)
    let at' := if sdiff due s.clock ≤ 0 then s.clock else due
    (¬follows → exec (.triggerArrives n) s = .next (s.modLane n (fun l => { l with triggers := rest }))) ∧
    (follows → s.lanes[n].cue.queue.length < 4 →
      ∃ t before after, exec (.triggerArrives n) s = .next t ∧ s.lanes[n].cue.queue = before ++ after ∧
        t = s.modLane n (fun l => { l with
          triggers := rest, cue := { l.cue with queue := before ++ [{ edge := g.edge, due := at' }] ++ after } }) ∧
        (∀ q ∈ before, atOrBefore q.due at' = true) ∧ (∀ q, after.head? = some q → atOrBefore q.due at' = false)) ∧
    (follows → 4 ≤ s.lanes[n].cue.queue.length →
      exec (.triggerArrives n) s = .next ((s.modLane n (fun l => { l with triggers := rest })).latch .triggerLost))) ∧
  (∀ (s : State) (n : LaneNo) (q : Queued) (rest : List Queued), s.lanes[n].cue.queue = q :: rest →
    let e := s.tables.cueLines[n]
    let up := q.edge = .bUp ∨ q.edge = .uUp
    let c : CueLine := { s.lanes[n].cue with queue := rest }
    let start := fun c : CueLine => if c.train = .idle then started c e q.due else c
    let stop := fun c : CueLine => if c.closing = true then started { c with closing := false } e q.due else cut c
    let complete := fun c : CueLine => if e.truncate = true ∧ c.train ≠ .idle then stop c else c
    let follow := fun b : Bool => { c with followed := b }
    exec (.triggerDue n) s = .next ((s.clockTo q.due).modLane n (fun l => { l with cue :=
      match e.mode, e.edge with
      | .off, _ => c
      | .level, _ => { c with train := if up then .high else .idle, phaseEnd := none }
      | .pulse, .start => if up then start c else complete c
      | .pulse, .finish => if up then c else start c
      | .pulse, .both => start c
      | .repeating, .finish => if up then c else start c
      | .repeating, .start => if up then start (follow true) else complete (follow false)
      | .repeating, .both =>
        if up then start (follow true)
        else if c.train = .idle then started (follow false) e q.due
        else if e.truncate = true then started { follow false with closing := false } e q.due
        else { follow false with closing := true } })))

/-- PHASE_END ends the phase of the lane's train at its instant. A train started with `n` pulses of high width h and low width l, run phase by phase,
stands in HIGH with one pulse remaining after 2n − 2 phase ends, that pulse ending n × h + (n − 1) × l ticks after its start. One more ends it: it is
IDLE, or, with a closing train pending, that train starts at the instant of the end and is pending no longer. The line is driven at its active level
exactly while its train is HIGH, or as its force setting has it, high for polarity active high and low for active low; until the start-up load has
placed T7 it is inactive, and no force is applied (the line as a function of the state: assumption 32). -/
def Obligations.PulseTrainRuns : Prop :=
  (∀ (s : State) (n : LaneNo) (d : Micros), s.lanes[n].cue.phaseEnd = some d →
    exec (.phaseEnd n) s = .next ((s.clockTo d).modLane n (fun l => { l with cue := l.cue.phaseOver s.tables.cueLines[n] d }))) ∧
  (∀ (c : CueLine) (e : CueEntry) (t : Micros), 1 ≤ e.pulses →
    let run := fun c : CueLine => c.phaseOver e (c.phaseEnd.getD 0)
    let last := run^[2 * e.pulses - 2] (c.startTrain e t)
    let ends := t + BitVec.ofNat 32 ((e.pulses * e.high + (e.pulses - 1) * e.low) * 5000)
    c.startTrain e t = started c e t ∧
    last.train = .high ∧ last.remaining = 1 ∧ last.phaseEnd = some ends ∧ last.closing = c.closing ∧
    (c.closing = false → run last = cut last) ∧
    (c.closing = true → run last = started { last with closing := false } e ends)) ∧
  (∀ (s : State) (n : LaneNo),
    let e := s.tables.cueLines[n]
    s.cueLevel n =
      if s.preset.t7Placed = false then e.activeLow
      else match e.force with
        | .normal => if s.lanes[n].cue.train = .high then !e.activeLow else e.activeLow
        | .active => !e.activeLow
        | .inactive => e.activeLow)

/-! ### Timebase and SYNC line -/

/-- SYNC_PULSE at a FOLLOWER with no stop pending: in STOPPED it changes nothing; in AWAIT_SYNC it primes; in PRIMING, inside the window, the part
runs, with its first cycle start at a marked instant at least 80,000 µs later, and outside it, or when the expected pulse has been missed, primes
afresh; in RUNNING and HOLDOVER, inside the window of the expected pulse, the miss count is 0 and the grid stays. A part of another role takes no
pulse. -/
def Obligations.SyncPulseResults : Prop :=
  ∀ (p : Micros) (s : State), ∃ t, exec (.syncPulse p) s = .next t ∧
    let now := (s.clockAt p).clock
    let primed := (s.clockAt p).putTimebase { s.timebase with
      mode := .priming, expected := some (now + BitVec.ofNat 32 (s.tables.site.divisor * 640000)), met := false }
    (s.tables.site.role ≠ .follower ∨ s.timebase.stopPending = true ∨ s.timebase.mode = .stopped → t = s.clockAt p) ∧
    (s.tables.site.role = .follower → s.timebase.stopPending = false →
      (s.timebase.mode = .awaitSync → t = primed) ∧
      (s.timebase.mode = .priming → s.timebase.expected = none → t = primed) ∧
      (∀ e, s.timebase.mode = .priming → s.timebase.expected = some e →
        (-1250 ≤ sdiff now e ∧ sdiff now e ≤ 1250 →
          ∃ m j : Int, m = 640000 * j - 625 * s.tables.site.inOffset ∧ 80000 ≤ m ∧ m < 720000 ∧
            t = (s.clockAt p).putTimebase { s.timebase with
              mode := .running, misses := 0, met := false, earlyFor := some (now + BitVec.ofInt 32 m)
              expected := some (now + BitVec.ofNat 32 (s.tables.site.divisor * 640000)) }) ∧
        (¬(-1250 ≤ sdiff now e ∧ sdiff now e ≤ 1250) → t = primed)) ∧
      (∀ e, s.timebase.mode.onGrid = true → s.timebase.expected = some e → -1250 ≤ sdiff now e → sdiff now e ≤ 1250 →
        1 ≤ s.tables.site.divisor →
        t = (s.clockAt p).putTimebase { s.timebase with mode := .running, misses := 0, expected := some e, met := true }))

/-- A pulse outside every window of a running FOLLOWER is a slip: SYNC_SLIP latches, the expected pulses go on from the pulse, every frame in build
and join frame is discarded and nothing else of a lane changes, the frame on the line is the last of the old grid, and the realigned cycle start is
the first marked instant that is at least 80,000 µs after the pulse and not before that frame's end. -/
def Obligations.SlipResult : Prop :=
  ∀ (p : Micros) (s : State), s.tables.site.role = .follower → s.timebase.stopPending = false → s.timebase.mode.onGrid = true →
    s.timebase.expected.bind (fun e => expectedFor (s.clockAt p).clock e s.tables.site.period) = none →
    let now := (s.clockAt p).clock
    let earliest : Int := match s.timebase.onLine with
      | some f => max 80000 (sdiff (f.start + 80000) now)
      | none => 80000
    ∃ t, exec (.syncPulse p) s = .next t ∧ t.latched .syncSlip = true ∧
      t = { s.clockAt p with lanes := t.lanes, timebase := t.timebase, answers := ((s.clockAt p).latch .syncSlip).answers } ∧
      (∀ n : LaneNo, t.lanes[n] = { s.lanes[n] with inBuild := none }) ∧
      ∃ m j : Int, m = 640000 * j - 625 * s.tables.site.inOffset ∧ earliest ≤ m ∧ m < earliest + 640000 ∧
        t.timebase = { s.timebase with
          mode := .running, misses := 0, met := false, built := none, lastOfGrid := s.timebase.onLine.isSome
          expected := some (now + BitVec.ofNat 32 (s.tables.site.divisor * 640000)), earlyFor := some (now + BitVec.ofInt 32 m) }

/-- SYNC_PULSE_MISSED in RUNNING counts the miss and moves the expected pulse on by one divisor of cycles; in HOLDOVER it counts none; in PRIMING the
next pulse primes afresh. SYNC_LOST at the third miss takes the timebase to HOLDOVER and latches. A MASTER's pulse is one bit period low, from its
instant, and the part pulls SYNC low at no other time (the line as a function of the state: assumption 32). That SYNC_LOST is a step of its own,
RUNNING with three misses before it, and that PRIMING keeps no expected pulse past its window, is the model's choice (assumption 19). -/
def Obligations.SyncLineResults : Prop :=
  (∀ (s : State) (e : Micros), s.tables.site.role = .follower → s.timebase.stopPending = false → s.nextUnmet = some e →
    let late := s.clockTo (e + 1251)
    let next := some (e + BitVec.ofNat 32 (s.tables.site.divisor * 640000))
    (s.timebase.mode = .running → s.timebase.misses ≤ 3 → exec .syncPulseMissed s = .next (late.putTimebase { s.timebase with
      expected := next, met := false, misses := min 3 (s.timebase.misses + 1) })) ∧
    (s.timebase.mode = .holdover → exec .syncPulseMissed s = .next (late.putTimebase { s.timebase with expected := next, met := false })) ∧
    (s.timebase.mode = .priming → exec .syncPulseMissed s = .next (late.putTimebase { s.timebase with expected := none, met := false }))) ∧
  (∀ s : State, s.tables.site.role = .follower → s.timebase.stopPending = false → s.timebase.mode = .running → s.timebase.misses = 3 →
    ∃ t, exec .syncLost s = .next t ∧ t.timebase = { s.timebase with mode := .holdover } ∧ t.latched .syncLost = true ∧ t.lanes = s.lanes) ∧
  (∀ (s : State) (d : Micros), s.sync.pulseAt = some d →
    ∃ t, exec .masterPulseStart s = .next t ∧ t = (s.clockTo d).putSync { pulseAt := none, lowUntil := some (d + 625) } ∧
      t.drivesSyncLow = true) ∧
  (∀ (s : State) (d : Micros), s.sync.lowUntil = some d →
    s.drivesSyncLow = true ∧
    ∃ t, exec .masterPulseEnd s = .next t ∧ t = (s.clockTo d).putSync { s.sync with lowUntil := none } ∧ t.drivesSyncLow = false) ∧
  (∀ s : State, s.sync.lowUntil = none → s.drivesSyncLow = false)

/-- A timebase that is STOPPED, AWAIT_SYNC or PRIMING holds no frame, counts, reference, stop or realignment, a pending stop leaves nothing to start,
and the miss count is at most 3; and a lane is ON_AIR only while the timebase is RUNNING or in HOLDOVER with a frame reference, has a stop request
while the timebase's stop is pending, and has no frame on its line while the timebase has none there: every step keeps it so. -/
def Obligations.TimebaseKept : Prop := ∀ s t : State, TimebaseOk s → step s = .next t → TimebaseOk t

/-! ### Preset memory, tables, freeze -/

/-- The steps of the start-up load over a memory that answers. A table takes its good record from a valid image under PRESET, as it stands, else its
defaults, and one that took its defaults keeps its flag to come; what is placed keeps the sync fields of a running timebase, the lists of a lane
holding URGENT and a frozen lane's identity. The flags come from a good protect record of a valid image, with those of defaulted tables set, else all
are set. PRESET_FAULT latches at a header not valid under PRESET, and in a valid image at a table or protect record that is not good. A good freeze
record freezes its lane with its station code and zone, any other but the erased pattern latches PRESET_FAULT. The end of the load clears the load
marker and leaves the controller IDLE; after a valid image with autostart it performs START AIR and switches on the lanes that are on at start, but
one whose station code is 0, and without autostart changes nothing else. The model's choices in it: the header is judged at the load's first step, and
the autostart goes by that judgement, also where the memory has fallen silent at a freeze record since (assumption 21); the freeze places are read in
lane order (assumption 39); the early build falls within the autostart (assumption 19), with the divisor counter 0 from there on (assumption 36). -/
def Obligations.StartUpSteps : Prop :=
  (∀ (time : Micros) (s : State) (p : StartUp), s.preset.op = .startUp p → p.next ≤ 8 →
    let valid := p.image.getD (s.loadSource == .preset && headerValid s.memory.header)
    let badHeader := p.image = none ∧ s.loadSource = .preset ∧ headerValid s.memory.header = false
    (p.next < 8 →
      let good := valid && tableRecordGood (p.next + 1) (s.memory.table (p.next + 1))
      ∃ t, exec (.startUpTablePlaced time) s = .next t ∧
        Placed s (if good then s.tables.fromRecord (p.next + 1) (s.memory.table (p.next + 1))
          else s.tables.copyTable Tables.default (p.next + 1)) t.tables ∧
        (∀ n : LaneNo, t.lanes[n] = rewritten s t.tables n) ∧ (HoldOk s → HoldOk t) ∧
        t = { s.clockAt time with
          tables := t.tables, lanes := t.lanes, hold := reheld s t.tables
          answers := if badHeader ∨ (valid = true ∧ good = false) then (s.latch .presetFault).answers else s.answers
          preset := {
            op := .startUp { next := p.next + 1, image := some valid,
                             defaulted := if good then p.defaulted else p.defaulted ||| (1#8) <<< p.next }
            condition := .answering
            t7Placed := s.preset.t7Placed || p.next == 6 } }) ∧
    (p.next = 8 →
      let good := valid && recordGood 3 s.memory.flags
      exec (.startUpTablePlaced time) s = .next { s.clockAt time with
        protect := { s.protect with flags := if good then byteAt s.memory.flags 0 ||| p.defaulted else 0xFF }
        answers := if badHeader ∨ (valid = true ∧ good = false) then (s.latch .presetFault).answers else s.answers
        preset := { s.preset with op := .startUp { p with next := 9, image := some valid }, condition := .answering } })) ∧
  (∀ (time : Micros) (s : State) (p : StartUp) (n : LaneNo), s.preset.op = .startUp p → p.next = 9 + n.val →
    let l := s.memory.freeze[n]
    let freezes := freezeRecordGood n l = true ∧ isErased l = false
    ∃ t, exec (.freezeRecordRead time) s = .next t ∧
      t = { s.clockAt time with
        tables := t.tables, frozen := t.frozen, answers := t.answers, lanes := t.lanes
        preset := { s.preset with op := .startUp { p with next := p.next + 1 }, condition := .answering }
        hold := if freezes then reheld s t.tables else s.hold } ∧
      (∀ m : LaneNo, t.lanes[m] = if freezes then rewritten s t.tables m else s.lanes[m]) ∧
      (HoldOk s → t.hold = s.hold ∧ t.lanes = s.lanes) ∧
      (freezes →
        ∃ f, t.frozen = s.frozen.set n (some f) ∧ f.station = halfAt l 1 ∧ ((byteAt l 3).toNat < 16 → f.zone.val = (byteAt l 3).toNat) ∧
          t.tables = { s.tables with lane := s.tables.lane.set n { s.tables.lane[n] with station := f.station, zone := f.zone } } ∧
          t.answers = s.answers) ∧
      (isErased l = true → t.frozen = s.frozen ∧ t.tables = s.tables ∧ t.answers = s.answers) ∧
      (freezeRecordGood n l = false → isErased l = false →
        t.frozen = s.frozen ∧ t.tables = s.tables ∧ t.answers = (s.latch .presetFault).answers)) ∧
  (∀ (time : Micros) (airFirst : Bool) (s : State) (p : StartUp), s.preset.op = .startUp p → p.next = 13 →
    let now := (s.clockAt time).clock
    let done := { s.clockAt time with preset := { s.preset with op := .idle }, answers := { s.answers with marker := false } }
    (p.image ≠ some true ∨ s.tables.site.autostart = false → exec (.startUpLoadEnd time airFirst) s = .next done) ∧
    (p.image = some true → s.tables.site.autostart = true →
      (s.timebase.mode = .stopped → ∀ n : LaneNo, s.lanes[n].mode ≠ .onAir) →
      let on := fun n : LaneNo => s.tables.lane[n].onAtStart = true ∧ ¬(s.lanes[n].mode = .off ∧ s.tables.lane[n].station = 0)
      let switched := fun n : LaneNo =>
        if on n then
          match s.lanes[n].mode with
          | .off => { s.lanes[n] with mode := .waiting }
          | .waiting => s.lanes[n]
          | .onAir => if s.lanes[n].stop = .toOff then { s.lanes[n] with stop := .toWaiting } else s.lanes[n]
        else s.lanes[n]
      let runs := s.timebase.mode = .stopped ∧ s.tables.site.role ≠ .follower
      let first : LineFrame := { number := 0, position := 0, start := now + 80000, cycle := 0 }
      let builds := fun n : LaneNo => runs ∧ s.lanes[n].inBuild = none ∧ s.tables.lane[n].station ≠ 0 ∧
        (s.lanes[n].mode = .waiting ∨ (s.lanes[n].mode = .off ∧ on n ∧ airFirst = false))
      ∃ t, exec (.startUpLoadEnd time airFirst) s = .next t ∧
        t = { done with
          lanes := t.lanes
          timebase :=
            if runs then { Timebase.reset with
              mode := .running
              counts := some { number := 1, position := 1, cycle := 1 }
              built := some first }
            else if s.timebase.mode = .stopped then { Timebase.reset with mode := .awaitSync }
            else s.timebase } ∧
        ∀ n : LaneNo,
          if builds n then
            ∃ fr, t.lanes[n] = { switched n with inBuild := some fr, lastBuilt := 0 } ∧ HeadIs (s.store n) first fr false false 0
          else t.lanes[n] = switched n))

/-- The steps of SAVE PRESET and LOAD PRESET, and a memory that makes no response. Each write of a SAVE puts its record whole in its place, INVALID
header, T1 to T8, flags, VALID header, and the last ends it DONE. A LOAD that finds its header not valid ends NO_PRESET with PRESET_FAULT, and no
table, no flag and no marker changes; else each of its tables takes its good record or its defaults, these with PRESET_FAULT and, under a clear lock,
the table's flag set; under a clear lock the flags then come from the protect record, with those of defaulted tables set, or are all set with
PRESET_FAULT; and its last step clears the load marker and ends it DONE. No response makes the condition SILENT. A SAVE then ends NO_PRESET, with no
place changed but the one being written: at its last write the header stays as it was, at its first as it was or broken; a LOAD ends NO_PRESET with
PRESET_FAULT and the marker cleared, at its header too (the model's choice, assumption 22); a FREEZE LANE ends NO_PRESET; a start-up load latches
PRESET_FAULT, the tables still to be placed take their defaults at once (assumption 21), no flag is cleared, no further freeze record is read, and a
silence before the freeze records keeps the autostart from acting. PRESET_FAULT's alert comes before the completion answer (assumption 38). A command
whose operation is not under way changes nothing (assumption 11). -/
def Obligations.PresetSteps : Prop :=
  (∀ (time : Micros) (s : State) (v : Saving), s.preset.op = .saving v → v.next ≤ 10 →
    let m : PresetMemory :=
      if v.next = 0 then { s.memory with header := sealRecord [0x00] }
      else if v.next = 10 then { s.memory with header := sealRecord [0xA5] }
      else if v.next = 9 then { s.memory with flags := sealRecord [s.protect.flags] }
      else { s.memory with
        tables := s.memory.tables.setIfInBounds (v.next - 1)
          (sealRecord (byteOf v.next :: (List.range (entryCount v.next)).flatMap (s.tables.entryBytes s.titles v.next))) }
    exec (.saveRecordWritten time) s = .next (
      if v.next < 10 then { s.clockAt time with
        memory := m, preset := { s.preset with op := .saving { v with next := v.next + 1 }, condition := .answering } }
      else { s.clockAt time with memory := m, preset := { s.preset with op := .idle, condition := .answering } }.reply v.reply .done [])) ∧
  (∀ (time : Micros) (s : State) (v : Reload), s.preset.op = .reloading v →
    let now := s.clockAt time
    let idle : Preset := { s.preset with op := .idle, condition := .answering }
    let last := fun u : State => ({ u with preset := idle, answers := { u.answers with marker := false } }.reply v.reply .done [])
    (v.headerRead = false →
      (headerValid s.memory.header = true → exec (.loadPresetStepDone time) s = .next (
        if v.todo = [] ∧ v.flags = false then last now
        else { now with preset := { s.preset with op := .reloading { v with headerRead := true }, condition := .answering } })) ∧
      (headerValid s.memory.header = false → exec (.loadPresetStepDone time) s = .next (
        State.reply { now.latch .presetFault with preset := idle } v.reply .noPreset []))) ∧
    (∀ (k : Nat) (rest : List Nat), v.headerRead = true → v.todo = k :: rest →
      let good := tableRecordGood k (s.memory.table k)
      let flagged := good = false ∧ v.lockClear = true
      ∃ u : State,
        Placed s (if good then s.tables.fromRecord k (s.memory.table k) else s.tables.copyTable Tables.default k) u.tables ∧
        (∀ n : LaneNo, u.lanes[n] = rewritten s u.tables n) ∧ (HoldOk s → HoldOk u) ∧
        u = { now with
          tables := u.tables, lanes := u.lanes, hold := reheld s u.tables
          answers := if good then s.answers else (s.latch .presetFault).answers
          protect := if flagged then { s.protect with flags := s.protect.flags ||| (1#8) <<< (k - 1) } else s.protect } ∧
        exec (.loadPresetStepDone time) s = .next (
          if rest = [] ∧ v.flags = false then last u
          else { u with preset := { s.preset with
            op := .reloading { v with todo := rest, defaulted := if flagged then v.defaulted ||| (1#8) <<< (k - 1) else v.defaulted }
            condition := .answering } })) ∧
    (v.headerRead = true → v.todo = [] →
      let good := recordGood 3 s.memory.flags
      exec (.loadPresetStepDone time) s = .next (
        if v.flags = false then last now
        else last { now with
          answers := if good then s.answers else (s.latch .presetFault).answers
          protect := { s.protect with flags := if good then byteAt s.memory.flags 0 ||| v.defaulted else 0xFF } }))) ∧
  (∀ (time : Micros) (k : Nat) (s : State),
    let now := s.clockAt time
    let silent : Preset := { s.preset with op := .idle, condition := .silent }
    (s.preset.op = .idle → exec (.presetAccessTimeout time k) s = .next now) ∧
    (∀ v, s.preset.op = .saving v → ∃ l : List Byte,
      exec (.presetAccessTimeout time k) s = .next
        ({ now with memory := s.memory.saveWrite v.next l, preset := silent }.reply v.reply .noPreset []) ∧
      (v.next = 10 → l = s.memory.header) ∧ (v.next = 0 → l = s.memory.header ∨ headerValid l = false)) ∧
    (∀ (m : PresetMemory) (l : List Byte),
      m.saveWrite 0 l = { m with header := l } ∧ m.saveWrite 9 l = { m with flags := l } ∧ m.saveWrite 10 l = { m with header := l } ∧
      ∀ j : Fin 8, m.saveWrite (j.val + 1) l = { m with tables := m.tables.set j l }) ∧
    (∀ v, s.preset.op = .reloading v → exec (.presetAccessTimeout time k) s = .next (
      { now.latch .presetFault with
        preset := silent, answers := { (s.latch .presetFault).answers with marker := false } }.reply v.reply .noPreset [])) ∧
    (∀ f, s.preset.op = .freezing f → ∃ l, exec (.presetAccessTimeout time k) s = .next (
      { now with memory := { s.memory with freeze := s.memory.freeze.set f.lane l }, preset := silent }.reply f.reply .noPreset [])) ∧
    (∀ p, s.preset.op = .startUp p →
      let accesses := p.next < 13 ∧ (s.loadSource = .preset ∨ p.next = 0 ∨ 9 ≤ p.next)
      (¬accesses → exec (.presetAccessTimeout time k) s = .next now) ∧
      (accesses → ∃ t, exec (.presetAccessTimeout time k) s = .next t ∧
        t = { now with
          tables := t.tables, lanes := t.lanes, hold := t.hold, answers := (s.latch .presetFault).answers
          preset := {
            op := .startUp { p with next := 13, image := some (decide (9 ≤ p.next) && p.image.getD false) }
            condition := .silent, t7Placed := true } } ∧
        (p.next < 8 → Placed s
          (([1, 2, 3, 4, 5, 6, 7, 8].filter (fun i => decide (p.next < i))).foldl (fun T i => T.copyTable Tables.default i) s.tables) t.tables) ∧
        (8 ≤ p.next → t.tables = s.tables ∧ t.hold = s.hold ∧ t.lanes = s.lanes) ∧
        (∀ n : LaneNo, ∃ b, t.lanes[n] = { rewritten s t.tables n with holdPending := b }) ∧
        (HoldOk s → t.hold = reheld s t.tables ∧ (∀ n : LaneNo, t.lanes[n] = rewritten s t.tables n) ∧ HoldOk t)))) ∧
  (∀ (time : Micros) (s : State),
    ((∀ v, s.preset.op ≠ .saving v) → exec (.saveRecordWritten time) s = .next (s.clockAt time)) ∧
    ((∀ v, s.preset.op ≠ .reloading v) → exec (.loadPresetStepDone time) s = .next (s.clockAt time)))

/-- What SAVE PRESET records of a table, a load places again: over tables in range, the record of each table is good, and placing it gives that
table. -/
def Obligations.ImageRoundTrip : Prop :=
  ∀ (s : State) (T : Tables) (t : Nat), s.tables.inRange = true → 1 ≤ t → t ≤ 8 →
    tableRecordGood t (s.tableRecord t) = true ∧ (s.tableRecord t).length = 3 + entryCount t * entrySize t ∧
    T.fromRecord t (s.tableRecord t) = T.copyTable s.tables t

/-- No order changes a table whose protect flag is set, and none changes a protect flag while the protect lock is set. While the lock is set and GUARD
is active, no feed frame changes such a table, whatever orders it carries. -/
def Obligations.ProtectedTablesStand : Prop :=
  (∀ c ∈ orderCommands, ∀ (o : OrderMsg) (s t : State), exec (c o) s = .next t →
    (∀ k, 1 ≤ k → k ≤ 8 → s.protectFlag k = true → s.tables.copyTable t.tables k = s.tables) ∧
    (s.protect.lock = true → t.protect.flags = s.protect.flags)) ∧
  (∀ (a : Arrival) (s t : State), s.protect.lock = true → s.guard = true → exec (.feedFrameComplete a) s = .next t →
    ∀ k, 1 ≤ k → k ≤ 8 → s.protectFlag k = true → s.tables.copyTable t.tables k = s.tables)

/-- Every entry of T1 to T8 stays within its ranges and every title record keeps its form, the places of the preset memory keep their lengths, and its
image, as far as a load can take it, holds entries in range: every step keeps it so. That a load of a good record takes its fields as they are, ranges
and all, rests on what the image holds; what a byte that codes nothing gives is free (assumption 8), and so are the bytes of a cut write no others
than the old and the new (assumption 23). -/
def Obligations.TablesStayInRange : Prop :=
  ∀ s t : State, TablesOk s ∧ TitlesOk s ∧ MemoryOk s ∧ ImageOk s → step s = .next t → TablesOk t ∧ TitlesOk t ∧ MemoryOk t ∧ ImageOk t

/-- A frozen lane's LANE entry keeps its frozen station code and zone, and so does that of a lane whose freeze record is being written: every step
keeps it so. -/
def Obligations.FrozenValuesKept : Prop := ∀ s t : State, FrozenOk s → step s = .next t → FrozenOk t

end
end

