-- ==== Sys2Proof/Laws/State.lean ====
section
/-! SUPPORT. The named updates of the state, field by field: what each leaves in each field. -/

namespace Sys2Proof.Machine

@[simp] theorem State.putClock_clock (s : State) (t : Micros) : (s.putClock t).clock = t := rfl
@[simp] theorem State.putClock_siteAddress (s : State) (t : Micros) : (s.putClock t).siteAddress = s.siteAddress := rfl
@[simp] theorem State.putClock_loadSource (s : State) (t : Micros) : (s.putClock t).loadSource = s.loadSource := rfl
@[simp] theorem State.putClock_guard (s : State) (t : Micros) : (s.putClock t).guard = s.guard := rfl
@[simp] theorem State.putClock_tables (s : State) (t : Micros) : (s.putClock t).tables = s.tables := rfl
@[simp] theorem State.putClock_titles (s : State) (t : Micros) : (s.putClock t).titles = s.titles := rfl
@[simp] theorem State.putClock_lanes (s : State) (t : Micros) : (s.putClock t).lanes = s.lanes := rfl
@[simp] theorem State.putClock_recentCues (s : State) (t : Micros) : (s.putClock t).recentCues = s.recentCues := rfl
@[simp] theorem State.putClock_timebase (s : State) (t : Micros) : (s.putClock t).timebase = s.timebase := rfl
@[simp] theorem State.putClock_sync (s : State) (t : Micros) : (s.putClock t).sync = s.sync := rfl
@[simp] theorem State.putClock_feed (s : State) (t : Micros) : (s.putClock t).feed = s.feed := rfl
@[simp] theorem State.putClock_monitor (s : State) (t : Micros) : (s.putClock t).monitor = s.monitor := rfl
@[simp] theorem State.putClock_hold (s : State) (t : Micros) : (s.putClock t).hold = s.hold := rfl
@[simp] theorem State.putClock_answers (s : State) (t : Micros) : (s.putClock t).answers = s.answers := rfl
@[simp] theorem State.putClock_protect (s : State) (t : Micros) : (s.putClock t).protect = s.protect := rfl
@[simp] theorem State.putClock_frozen (s : State) (t : Micros) : (s.putClock t).frozen = s.frozen := rfl
@[simp] theorem State.putClock_preset (s : State) (t : Micros) : (s.putClock t).preset = s.preset := rfl
@[simp] theorem State.putClock_memory (s : State) (t : Micros) : (s.putClock t).memory = s.memory := rfl
@[simp] theorem State.putClock_choices (s : State) (t : Micros) : (s.putClock t).choices = s.choices := rfl
@[simp] theorem State.putClock_pending (s : State) (t : Micros) : (s.putClock t).pending = s.pending := rfl

@[simp] theorem State.putGuard_clock (s : State) (b : Bool) : (s.putGuard b).clock = s.clock := rfl
@[simp] theorem State.putGuard_siteAddress (s : State) (b : Bool) : (s.putGuard b).siteAddress = s.siteAddress := rfl
@[simp] theorem State.putGuard_loadSource (s : State) (b : Bool) : (s.putGuard b).loadSource = s.loadSource := rfl
@[simp] theorem State.putGuard_guard (s : State) (b : Bool) : (s.putGuard b).guard = b := rfl
@[simp] theorem State.putGuard_tables (s : State) (b : Bool) : (s.putGuard b).tables = s.tables := rfl
@[simp] theorem State.putGuard_titles (s : State) (b : Bool) : (s.putGuard b).titles = s.titles := rfl
@[simp] theorem State.putGuard_lanes (s : State) (b : Bool) : (s.putGuard b).lanes = s.lanes := rfl
@[simp] theorem State.putGuard_recentCues (s : State) (b : Bool) : (s.putGuard b).recentCues = s.recentCues := rfl
@[simp] theorem State.putGuard_timebase (s : State) (b : Bool) : (s.putGuard b).timebase = s.timebase := rfl
@[simp] theorem State.putGuard_sync (s : State) (b : Bool) : (s.putGuard b).sync = s.sync := rfl
@[simp] theorem State.putGuard_feed (s : State) (b : Bool) : (s.putGuard b).feed = s.feed := rfl
@[simp] theorem State.putGuard_monitor (s : State) (b : Bool) : (s.putGuard b).monitor = s.monitor := rfl
@[simp] theorem State.putGuard_hold (s : State) (b : Bool) : (s.putGuard b).hold = s.hold := rfl
@[simp] theorem State.putGuard_answers (s : State) (b : Bool) : (s.putGuard b).answers = s.answers := rfl
@[simp] theorem State.putGuard_protect (s : State) (b : Bool) : (s.putGuard b).protect = s.protect := rfl
@[simp] theorem State.putGuard_frozen (s : State) (b : Bool) : (s.putGuard b).frozen = s.frozen := rfl
@[simp] theorem State.putGuard_preset (s : State) (b : Bool) : (s.putGuard b).preset = s.preset := rfl
@[simp] theorem State.putGuard_memory (s : State) (b : Bool) : (s.putGuard b).memory = s.memory := rfl
@[simp] theorem State.putGuard_choices (s : State) (b : Bool) : (s.putGuard b).choices = s.choices := rfl
@[simp] theorem State.putGuard_pending (s : State) (b : Bool) : (s.putGuard b).pending = s.pending := rfl

@[simp] theorem State.putTables_clock (s : State) (T : Tables) : (s.putTables T).clock = s.clock := rfl
@[simp] theorem State.putTables_siteAddress (s : State) (T : Tables) : (s.putTables T).siteAddress = s.siteAddress := rfl
@[simp] theorem State.putTables_loadSource (s : State) (T : Tables) : (s.putTables T).loadSource = s.loadSource := rfl
@[simp] theorem State.putTables_guard (s : State) (T : Tables) : (s.putTables T).guard = s.guard := rfl
@[simp] theorem State.putTables_tables (s : State) (T : Tables) : (s.putTables T).tables = T := rfl
@[simp] theorem State.putTables_titles (s : State) (T : Tables) : (s.putTables T).titles = s.titles := rfl
@[simp] theorem State.putTables_lanes (s : State) (T : Tables) : (s.putTables T).lanes = s.lanes := rfl
@[simp] theorem State.putTables_recentCues (s : State) (T : Tables) : (s.putTables T).recentCues = s.recentCues := rfl
@[simp] theorem State.putTables_timebase (s : State) (T : Tables) : (s.putTables T).timebase = s.timebase := rfl
@[simp] theorem State.putTables_sync (s : State) (T : Tables) : (s.putTables T).sync = s.sync := rfl
@[simp] theorem State.putTables_feed (s : State) (T : Tables) : (s.putTables T).feed = s.feed := rfl
@[simp] theorem State.putTables_monitor (s : State) (T : Tables) : (s.putTables T).monitor = s.monitor := rfl
@[simp] theorem State.putTables_hold (s : State) (T : Tables) : (s.putTables T).hold = s.hold := rfl
@[simp] theorem State.putTables_answers (s : State) (T : Tables) : (s.putTables T).answers = s.answers := rfl
@[simp] theorem State.putTables_protect (s : State) (T : Tables) : (s.putTables T).protect = s.protect := rfl
@[simp] theorem State.putTables_frozen (s : State) (T : Tables) : (s.putTables T).frozen = s.frozen := rfl
@[simp] theorem State.putTables_preset (s : State) (T : Tables) : (s.putTables T).preset = s.preset := rfl
@[simp] theorem State.putTables_memory (s : State) (T : Tables) : (s.putTables T).memory = s.memory := rfl
@[simp] theorem State.putTables_choices (s : State) (T : Tables) : (s.putTables T).choices = s.choices := rfl
@[simp] theorem State.putTables_pending (s : State) (T : Tables) : (s.putTables T).pending = s.pending := rfl

@[simp] theorem State.putTitles_clock (s : State) (v : Vector TitleRecord 16) : (s.putTitles v).clock = s.clock := rfl
@[simp] theorem State.putTitles_siteAddress (s : State) (v : Vector TitleRecord 16) : (s.putTitles v).siteAddress = s.siteAddress := rfl
@[simp] theorem State.putTitles_loadSource (s : State) (v : Vector TitleRecord 16) : (s.putTitles v).loadSource = s.loadSource := rfl
@[simp] theorem State.putTitles_guard (s : State) (v : Vector TitleRecord 16) : (s.putTitles v).guard = s.guard := rfl
@[simp] theorem State.putTitles_tables (s : State) (v : Vector TitleRecord 16) : (s.putTitles v).tables = s.tables := rfl
@[simp] theorem State.putTitles_titles (s : State) (v : Vector TitleRecord 16) : (s.putTitles v).titles = v := rfl
@[simp] theorem State.putTitles_lanes (s : State) (v : Vector TitleRecord 16) : (s.putTitles v).lanes = s.lanes := rfl
@[simp] theorem State.putTitles_recentCues (s : State) (v : Vector TitleRecord 16) : (s.putTitles v).recentCues = s.recentCues := rfl
@[simp] theorem State.putTitles_timebase (s : State) (v : Vector TitleRecord 16) : (s.putTitles v).timebase = s.timebase := rfl
@[simp] theorem State.putTitles_sync (s : State) (v : Vector TitleRecord 16) : (s.putTitles v).sync = s.sync := rfl
@[simp] theorem State.putTitles_feed (s : State) (v : Vector TitleRecord 16) : (s.putTitles v).feed = s.feed := rfl
@[simp] theorem State.putTitles_monitor (s : State) (v : Vector TitleRecord 16) : (s.putTitles v).monitor = s.monitor := rfl
@[simp] theorem State.putTitles_hold (s : State) (v : Vector TitleRecord 16) : (s.putTitles v).hold = s.hold := rfl
@[simp] theorem State.putTitles_answers (s : State) (v : Vector TitleRecord 16) : (s.putTitles v).answers = s.answers := rfl
@[simp] theorem State.putTitles_protect (s : State) (v : Vector TitleRecord 16) : (s.putTitles v).protect = s.protect := rfl
@[simp] theorem State.putTitles_frozen (s : State) (v : Vector TitleRecord 16) : (s.putTitles v).frozen = s.frozen := rfl
@[simp] theorem State.putTitles_preset (s : State) (v : Vector TitleRecord 16) : (s.putTitles v).preset = s.preset := rfl
@[simp] theorem State.putTitles_memory (s : State) (v : Vector TitleRecord 16) : (s.putTitles v).memory = s.memory := rfl
@[simp] theorem State.putTitles_choices (s : State) (v : Vector TitleRecord 16) : (s.putTitles v).choices = s.choices := rfl
@[simp] theorem State.putTitles_pending (s : State) (v : Vector TitleRecord 16) : (s.putTitles v).pending = s.pending := rfl

@[simp] theorem State.putLanes_clock (s : State) (v : Vector Lane 4) : (s.putLanes v).clock = s.clock := rfl
@[simp] theorem State.putLanes_siteAddress (s : State) (v : Vector Lane 4) : (s.putLanes v).siteAddress = s.siteAddress := rfl
@[simp] theorem State.putLanes_loadSource (s : State) (v : Vector Lane 4) : (s.putLanes v).loadSource = s.loadSource := rfl
@[simp] theorem State.putLanes_guard (s : State) (v : Vector Lane 4) : (s.putLanes v).guard = s.guard := rfl
@[simp] theorem State.putLanes_tables (s : State) (v : Vector Lane 4) : (s.putLanes v).tables = s.tables := rfl
@[simp] theorem State.putLanes_titles (s : State) (v : Vector Lane 4) : (s.putLanes v).titles = s.titles := rfl
@[simp] theorem State.putLanes_lanes (s : State) (v : Vector Lane 4) : (s.putLanes v).lanes = v := rfl
@[simp] theorem State.putLanes_recentCues (s : State) (v : Vector Lane 4) : (s.putLanes v).recentCues = s.recentCues := rfl
@[simp] theorem State.putLanes_timebase (s : State) (v : Vector Lane 4) : (s.putLanes v).timebase = s.timebase := rfl
@[simp] theorem State.putLanes_sync (s : State) (v : Vector Lane 4) : (s.putLanes v).sync = s.sync := rfl
@[simp] theorem State.putLanes_feed (s : State) (v : Vector Lane 4) : (s.putLanes v).feed = s.feed := rfl
@[simp] theorem State.putLanes_monitor (s : State) (v : Vector Lane 4) : (s.putLanes v).monitor = s.monitor := rfl
@[simp] theorem State.putLanes_hold (s : State) (v : Vector Lane 4) : (s.putLanes v).hold = s.hold := rfl
@[simp] theorem State.putLanes_answers (s : State) (v : Vector Lane 4) : (s.putLanes v).answers = s.answers := rfl
@[simp] theorem State.putLanes_protect (s : State) (v : Vector Lane 4) : (s.putLanes v).protect = s.protect := rfl
@[simp] theorem State.putLanes_frozen (s : State) (v : Vector Lane 4) : (s.putLanes v).frozen = s.frozen := rfl
@[simp] theorem State.putLanes_preset (s : State) (v : Vector Lane 4) : (s.putLanes v).preset = s.preset := rfl
@[simp] theorem State.putLanes_memory (s : State) (v : Vector Lane 4) : (s.putLanes v).memory = s.memory := rfl
@[simp] theorem State.putLanes_choices (s : State) (v : Vector Lane 4) : (s.putLanes v).choices = s.choices := rfl
@[simp] theorem State.putLanes_pending (s : State) (v : Vector Lane 4) : (s.putLanes v).pending = s.pending := rfl

@[simp] theorem State.putLane_clock (s : State) (n : LaneNo) (l : Lane) : (s.putLane n l).clock = s.clock := rfl
@[simp] theorem State.putLane_siteAddress (s : State) (n : LaneNo) (l : Lane) : (s.putLane n l).siteAddress = s.siteAddress := rfl
@[simp] theorem State.putLane_loadSource (s : State) (n : LaneNo) (l : Lane) : (s.putLane n l).loadSource = s.loadSource := rfl
@[simp] theorem State.putLane_guard (s : State) (n : LaneNo) (l : Lane) : (s.putLane n l).guard = s.guard := rfl
@[simp] theorem State.putLane_tables (s : State) (n : LaneNo) (l : Lane) : (s.putLane n l).tables = s.tables := rfl
@[simp] theorem State.putLane_titles (s : State) (n : LaneNo) (l : Lane) : (s.putLane n l).titles = s.titles := rfl
@[simp] theorem State.putLane_lanes (s : State) (n : LaneNo) (l : Lane) : (s.putLane n l).lanes = s.lanes.set n l := rfl
@[simp] theorem State.putLane_recentCues (s : State) (n : LaneNo) (l : Lane) : (s.putLane n l).recentCues = s.recentCues := rfl
@[simp] theorem State.putLane_timebase (s : State) (n : LaneNo) (l : Lane) : (s.putLane n l).timebase = s.timebase := rfl
@[simp] theorem State.putLane_sync (s : State) (n : LaneNo) (l : Lane) : (s.putLane n l).sync = s.sync := rfl
@[simp] theorem State.putLane_feed (s : State) (n : LaneNo) (l : Lane) : (s.putLane n l).feed = s.feed := rfl
@[simp] theorem State.putLane_monitor (s : State) (n : LaneNo) (l : Lane) : (s.putLane n l).monitor = s.monitor := rfl
@[simp] theorem State.putLane_hold (s : State) (n : LaneNo) (l : Lane) : (s.putLane n l).hold = s.hold := rfl
@[simp] theorem State.putLane_answers (s : State) (n : LaneNo) (l : Lane) : (s.putLane n l).answers = s.answers := rfl
@[simp] theorem State.putLane_protect (s : State) (n : LaneNo) (l : Lane) : (s.putLane n l).protect = s.protect := rfl
@[simp] theorem State.putLane_frozen (s : State) (n : LaneNo) (l : Lane) : (s.putLane n l).frozen = s.frozen := rfl
@[simp] theorem State.putLane_preset (s : State) (n : LaneNo) (l : Lane) : (s.putLane n l).preset = s.preset := rfl
@[simp] theorem State.putLane_memory (s : State) (n : LaneNo) (l : Lane) : (s.putLane n l).memory = s.memory := rfl
@[simp] theorem State.putLane_choices (s : State) (n : LaneNo) (l : Lane) : (s.putLane n l).choices = s.choices := rfl
@[simp] theorem State.putLane_pending (s : State) (n : LaneNo) (l : Lane) : (s.putLane n l).pending = s.pending := rfl

@[simp] theorem State.putRecentCues_clock (s : State) (l : List Byte) : (s.putRecentCues l).clock = s.clock := rfl
@[simp] theorem State.putRecentCues_siteAddress (s : State) (l : List Byte) : (s.putRecentCues l).siteAddress = s.siteAddress := rfl
@[simp] theorem State.putRecentCues_loadSource (s : State) (l : List Byte) : (s.putRecentCues l).loadSource = s.loadSource := rfl
@[simp] theorem State.putRecentCues_guard (s : State) (l : List Byte) : (s.putRecentCues l).guard = s.guard := rfl
@[simp] theorem State.putRecentCues_tables (s : State) (l : List Byte) : (s.putRecentCues l).tables = s.tables := rfl
@[simp] theorem State.putRecentCues_titles (s : State) (l : List Byte) : (s.putRecentCues l).titles = s.titles := rfl
@[simp] theorem State.putRecentCues_lanes (s : State) (l : List Byte) : (s.putRecentCues l).lanes = s.lanes := rfl
@[simp] theorem State.putRecentCues_recentCues (s : State) (l : List Byte) : (s.putRecentCues l).recentCues = l := rfl
@[simp] theorem State.putRecentCues_timebase (s : State) (l : List Byte) : (s.putRecentCues l).timebase = s.timebase := rfl
@[simp] theorem State.putRecentCues_sync (s : State) (l : List Byte) : (s.putRecentCues l).sync = s.sync := rfl
@[simp] theorem State.putRecentCues_feed (s : State) (l : List Byte) : (s.putRecentCues l).feed = s.feed := rfl
@[simp] theorem State.putRecentCues_monitor (s : State) (l : List Byte) : (s.putRecentCues l).monitor = s.monitor := rfl
@[simp] theorem State.putRecentCues_hold (s : State) (l : List Byte) : (s.putRecentCues l).hold = s.hold := rfl
@[simp] theorem State.putRecentCues_answers (s : State) (l : List Byte) : (s.putRecentCues l).answers = s.answers := rfl
@[simp] theorem State.putRecentCues_protect (s : State) (l : List Byte) : (s.putRecentCues l).protect = s.protect := rfl
@[simp] theorem State.putRecentCues_frozen (s : State) (l : List Byte) : (s.putRecentCues l).frozen = s.frozen := rfl
@[simp] theorem State.putRecentCues_preset (s : State) (l : List Byte) : (s.putRecentCues l).preset = s.preset := rfl
@[simp] theorem State.putRecentCues_memory (s : State) (l : List Byte) : (s.putRecentCues l).memory = s.memory := rfl
@[simp] theorem State.putRecentCues_choices (s : State) (l : List Byte) : (s.putRecentCues l).choices = s.choices := rfl
@[simp] theorem State.putRecentCues_pending (s : State) (l : List Byte) : (s.putRecentCues l).pending = s.pending := rfl

@[simp] theorem State.putTimebase_clock (s : State) (t : Timebase) : (s.putTimebase t).clock = s.clock := rfl
@[simp] theorem State.putTimebase_siteAddress (s : State) (t : Timebase) : (s.putTimebase t).siteAddress = s.siteAddress := rfl
@[simp] theorem State.putTimebase_loadSource (s : State) (t : Timebase) : (s.putTimebase t).loadSource = s.loadSource := rfl
@[simp] theorem State.putTimebase_guard (s : State) (t : Timebase) : (s.putTimebase t).guard = s.guard := rfl
@[simp] theorem State.putTimebase_tables (s : State) (t : Timebase) : (s.putTimebase t).tables = s.tables := rfl
@[simp] theorem State.putTimebase_titles (s : State) (t : Timebase) : (s.putTimebase t).titles = s.titles := rfl
@[simp] theorem State.putTimebase_lanes (s : State) (t : Timebase) : (s.putTimebase t).lanes = s.lanes := rfl
@[simp] theorem State.putTimebase_recentCues (s : State) (t : Timebase) : (s.putTimebase t).recentCues = s.recentCues := rfl
@[simp] theorem State.putTimebase_timebase (s : State) (t : Timebase) : (s.putTimebase t).timebase = t := rfl
@[simp] theorem State.putTimebase_sync (s : State) (t : Timebase) : (s.putTimebase t).sync = s.sync := rfl
@[simp] theorem State.putTimebase_feed (s : State) (t : Timebase) : (s.putTimebase t).feed = s.feed := rfl
@[simp] theorem State.putTimebase_monitor (s : State) (t : Timebase) : (s.putTimebase t).monitor = s.monitor := rfl
@[simp] theorem State.putTimebase_hold (s : State) (t : Timebase) : (s.putTimebase t).hold = s.hold := rfl
@[simp] theorem State.putTimebase_answers (s : State) (t : Timebase) : (s.putTimebase t).answers = s.answers := rfl
@[simp] theorem State.putTimebase_protect (s : State) (t : Timebase) : (s.putTimebase t).protect = s.protect := rfl
@[simp] theorem State.putTimebase_frozen (s : State) (t : Timebase) : (s.putTimebase t).frozen = s.frozen := rfl
@[simp] theorem State.putTimebase_preset (s : State) (t : Timebase) : (s.putTimebase t).preset = s.preset := rfl
@[simp] theorem State.putTimebase_memory (s : State) (t : Timebase) : (s.putTimebase t).memory = s.memory := rfl
@[simp] theorem State.putTimebase_choices (s : State) (t : Timebase) : (s.putTimebase t).choices = s.choices := rfl
@[simp] theorem State.putTimebase_pending (s : State) (t : Timebase) : (s.putTimebase t).pending = s.pending := rfl

@[simp] theorem State.putSync_clock (s : State) (y : SyncLine) : (s.putSync y).clock = s.clock := rfl
@[simp] theorem State.putSync_siteAddress (s : State) (y : SyncLine) : (s.putSync y).siteAddress = s.siteAddress := rfl
@[simp] theorem State.putSync_loadSource (s : State) (y : SyncLine) : (s.putSync y).loadSource = s.loadSource := rfl
@[simp] theorem State.putSync_guard (s : State) (y : SyncLine) : (s.putSync y).guard = s.guard := rfl
@[simp] theorem State.putSync_tables (s : State) (y : SyncLine) : (s.putSync y).tables = s.tables := rfl
@[simp] theorem State.putSync_titles (s : State) (y : SyncLine) : (s.putSync y).titles = s.titles := rfl
@[simp] theorem State.putSync_lanes (s : State) (y : SyncLine) : (s.putSync y).lanes = s.lanes := rfl
@[simp] theorem State.putSync_recentCues (s : State) (y : SyncLine) : (s.putSync y).recentCues = s.recentCues := rfl
@[simp] theorem State.putSync_timebase (s : State) (y : SyncLine) : (s.putSync y).timebase = s.timebase := rfl
@[simp] theorem State.putSync_sync (s : State) (y : SyncLine) : (s.putSync y).sync = y := rfl
@[simp] theorem State.putSync_feed (s : State) (y : SyncLine) : (s.putSync y).feed = s.feed := rfl
@[simp] theorem State.putSync_monitor (s : State) (y : SyncLine) : (s.putSync y).monitor = s.monitor := rfl
@[simp] theorem State.putSync_hold (s : State) (y : SyncLine) : (s.putSync y).hold = s.hold := rfl
@[simp] theorem State.putSync_answers (s : State) (y : SyncLine) : (s.putSync y).answers = s.answers := rfl
@[simp] theorem State.putSync_protect (s : State) (y : SyncLine) : (s.putSync y).protect = s.protect := rfl
@[simp] theorem State.putSync_frozen (s : State) (y : SyncLine) : (s.putSync y).frozen = s.frozen := rfl
@[simp] theorem State.putSync_preset (s : State) (y : SyncLine) : (s.putSync y).preset = s.preset := rfl
@[simp] theorem State.putSync_memory (s : State) (y : SyncLine) : (s.putSync y).memory = s.memory := rfl
@[simp] theorem State.putSync_choices (s : State) (y : SyncLine) : (s.putSync y).choices = s.choices := rfl
@[simp] theorem State.putSync_pending (s : State) (y : SyncLine) : (s.putSync y).pending = s.pending := rfl

@[simp] theorem State.putFeed_clock (s : State) (f : FeedPort) : (s.putFeed f).clock = s.clock := rfl
@[simp] theorem State.putFeed_siteAddress (s : State) (f : FeedPort) : (s.putFeed f).siteAddress = s.siteAddress := rfl
@[simp] theorem State.putFeed_loadSource (s : State) (f : FeedPort) : (s.putFeed f).loadSource = s.loadSource := rfl
@[simp] theorem State.putFeed_guard (s : State) (f : FeedPort) : (s.putFeed f).guard = s.guard := rfl
@[simp] theorem State.putFeed_tables (s : State) (f : FeedPort) : (s.putFeed f).tables = s.tables := rfl
@[simp] theorem State.putFeed_titles (s : State) (f : FeedPort) : (s.putFeed f).titles = s.titles := rfl
@[simp] theorem State.putFeed_lanes (s : State) (f : FeedPort) : (s.putFeed f).lanes = s.lanes := rfl
@[simp] theorem State.putFeed_recentCues (s : State) (f : FeedPort) : (s.putFeed f).recentCues = s.recentCues := rfl
@[simp] theorem State.putFeed_timebase (s : State) (f : FeedPort) : (s.putFeed f).timebase = s.timebase := rfl
@[simp] theorem State.putFeed_sync (s : State) (f : FeedPort) : (s.putFeed f).sync = s.sync := rfl
@[simp] theorem State.putFeed_feed (s : State) (f : FeedPort) : (s.putFeed f).feed = f := rfl
@[simp] theorem State.putFeed_monitor (s : State) (f : FeedPort) : (s.putFeed f).monitor = s.monitor := rfl
@[simp] theorem State.putFeed_hold (s : State) (f : FeedPort) : (s.putFeed f).hold = s.hold := rfl
@[simp] theorem State.putFeed_answers (s : State) (f : FeedPort) : (s.putFeed f).answers = s.answers := rfl
@[simp] theorem State.putFeed_protect (s : State) (f : FeedPort) : (s.putFeed f).protect = s.protect := rfl
@[simp] theorem State.putFeed_frozen (s : State) (f : FeedPort) : (s.putFeed f).frozen = s.frozen := rfl
@[simp] theorem State.putFeed_preset (s : State) (f : FeedPort) : (s.putFeed f).preset = s.preset := rfl
@[simp] theorem State.putFeed_memory (s : State) (f : FeedPort) : (s.putFeed f).memory = s.memory := rfl
@[simp] theorem State.putFeed_choices (s : State) (f : FeedPort) : (s.putFeed f).choices = s.choices := rfl
@[simp] theorem State.putFeed_pending (s : State) (f : FeedPort) : (s.putFeed f).pending = s.pending := rfl

@[simp] theorem State.putMonitor_clock (s : State) (m : Monitor) : (s.putMonitor m).clock = s.clock := rfl
@[simp] theorem State.putMonitor_siteAddress (s : State) (m : Monitor) : (s.putMonitor m).siteAddress = s.siteAddress := rfl
@[simp] theorem State.putMonitor_loadSource (s : State) (m : Monitor) : (s.putMonitor m).loadSource = s.loadSource := rfl
@[simp] theorem State.putMonitor_guard (s : State) (m : Monitor) : (s.putMonitor m).guard = s.guard := rfl
@[simp] theorem State.putMonitor_tables (s : State) (m : Monitor) : (s.putMonitor m).tables = s.tables := rfl
@[simp] theorem State.putMonitor_titles (s : State) (m : Monitor) : (s.putMonitor m).titles = s.titles := rfl
@[simp] theorem State.putMonitor_lanes (s : State) (m : Monitor) : (s.putMonitor m).lanes = s.lanes := rfl
@[simp] theorem State.putMonitor_recentCues (s : State) (m : Monitor) : (s.putMonitor m).recentCues = s.recentCues := rfl
@[simp] theorem State.putMonitor_timebase (s : State) (m : Monitor) : (s.putMonitor m).timebase = s.timebase := rfl
@[simp] theorem State.putMonitor_sync (s : State) (m : Monitor) : (s.putMonitor m).sync = s.sync := rfl
@[simp] theorem State.putMonitor_feed (s : State) (m : Monitor) : (s.putMonitor m).feed = s.feed := rfl
@[simp] theorem State.putMonitor_monitor (s : State) (m : Monitor) : (s.putMonitor m).monitor = m := rfl
@[simp] theorem State.putMonitor_hold (s : State) (m : Monitor) : (s.putMonitor m).hold = s.hold := rfl
@[simp] theorem State.putMonitor_answers (s : State) (m : Monitor) : (s.putMonitor m).answers = s.answers := rfl
@[simp] theorem State.putMonitor_protect (s : State) (m : Monitor) : (s.putMonitor m).protect = s.protect := rfl
@[simp] theorem State.putMonitor_frozen (s : State) (m : Monitor) : (s.putMonitor m).frozen = s.frozen := rfl
@[simp] theorem State.putMonitor_preset (s : State) (m : Monitor) : (s.putMonitor m).preset = s.preset := rfl
@[simp] theorem State.putMonitor_memory (s : State) (m : Monitor) : (s.putMonitor m).memory = s.memory := rfl
@[simp] theorem State.putMonitor_choices (s : State) (m : Monitor) : (s.putMonitor m).choices = s.choices := rfl
@[simp] theorem State.putMonitor_pending (s : State) (m : Monitor) : (s.putMonitor m).pending = s.pending := rfl

@[simp] theorem State.putHold_clock (s : State) (h : Hold) : (s.putHold h).clock = s.clock := rfl
@[simp] theorem State.putHold_siteAddress (s : State) (h : Hold) : (s.putHold h).siteAddress = s.siteAddress := rfl
@[simp] theorem State.putHold_loadSource (s : State) (h : Hold) : (s.putHold h).loadSource = s.loadSource := rfl
@[simp] theorem State.putHold_guard (s : State) (h : Hold) : (s.putHold h).guard = s.guard := rfl
@[simp] theorem State.putHold_tables (s : State) (h : Hold) : (s.putHold h).tables = s.tables := rfl
@[simp] theorem State.putHold_titles (s : State) (h : Hold) : (s.putHold h).titles = s.titles := rfl
@[simp] theorem State.putHold_lanes (s : State) (h : Hold) : (s.putHold h).lanes = s.lanes := rfl
@[simp] theorem State.putHold_recentCues (s : State) (h : Hold) : (s.putHold h).recentCues = s.recentCues := rfl
@[simp] theorem State.putHold_timebase (s : State) (h : Hold) : (s.putHold h).timebase = s.timebase := rfl
@[simp] theorem State.putHold_sync (s : State) (h : Hold) : (s.putHold h).sync = s.sync := rfl
@[simp] theorem State.putHold_feed (s : State) (h : Hold) : (s.putHold h).feed = s.feed := rfl
@[simp] theorem State.putHold_monitor (s : State) (h : Hold) : (s.putHold h).monitor = s.monitor := rfl
@[simp] theorem State.putHold_hold (s : State) (h : Hold) : (s.putHold h).hold = h := rfl
@[simp] theorem State.putHold_answers (s : State) (h : Hold) : (s.putHold h).answers = s.answers := rfl
@[simp] theorem State.putHold_protect (s : State) (h : Hold) : (s.putHold h).protect = s.protect := rfl
@[simp] theorem State.putHold_frozen (s : State) (h : Hold) : (s.putHold h).frozen = s.frozen := rfl
@[simp] theorem State.putHold_preset (s : State) (h : Hold) : (s.putHold h).preset = s.preset := rfl
@[simp] theorem State.putHold_memory (s : State) (h : Hold) : (s.putHold h).memory = s.memory := rfl
@[simp] theorem State.putHold_choices (s : State) (h : Hold) : (s.putHold h).choices = s.choices := rfl
@[simp] theorem State.putHold_pending (s : State) (h : Hold) : (s.putHold h).pending = s.pending := rfl

@[simp] theorem State.putAnswers_clock (s : State) (a : AnswerUnit) : (s.putAnswers a).clock = s.clock := rfl
@[simp] theorem State.putAnswers_siteAddress (s : State) (a : AnswerUnit) : (s.putAnswers a).siteAddress = s.siteAddress := rfl
@[simp] theorem State.putAnswers_loadSource (s : State) (a : AnswerUnit) : (s.putAnswers a).loadSource = s.loadSource := rfl
@[simp] theorem State.putAnswers_guard (s : State) (a : AnswerUnit) : (s.putAnswers a).guard = s.guard := rfl
@[simp] theorem State.putAnswers_tables (s : State) (a : AnswerUnit) : (s.putAnswers a).tables = s.tables := rfl
@[simp] theorem State.putAnswers_titles (s : State) (a : AnswerUnit) : (s.putAnswers a).titles = s.titles := rfl
@[simp] theorem State.putAnswers_lanes (s : State) (a : AnswerUnit) : (s.putAnswers a).lanes = s.lanes := rfl
@[simp] theorem State.putAnswers_recentCues (s : State) (a : AnswerUnit) : (s.putAnswers a).recentCues = s.recentCues := rfl
@[simp] theorem State.putAnswers_timebase (s : State) (a : AnswerUnit) : (s.putAnswers a).timebase = s.timebase := rfl
@[simp] theorem State.putAnswers_sync (s : State) (a : AnswerUnit) : (s.putAnswers a).sync = s.sync := rfl
@[simp] theorem State.putAnswers_feed (s : State) (a : AnswerUnit) : (s.putAnswers a).feed = s.feed := rfl
@[simp] theorem State.putAnswers_monitor (s : State) (a : AnswerUnit) : (s.putAnswers a).monitor = s.monitor := rfl
@[simp] theorem State.putAnswers_hold (s : State) (a : AnswerUnit) : (s.putAnswers a).hold = s.hold := rfl
@[simp] theorem State.putAnswers_answers (s : State) (a : AnswerUnit) : (s.putAnswers a).answers = a := rfl
@[simp] theorem State.putAnswers_protect (s : State) (a : AnswerUnit) : (s.putAnswers a).protect = s.protect := rfl
@[simp] theorem State.putAnswers_frozen (s : State) (a : AnswerUnit) : (s.putAnswers a).frozen = s.frozen := rfl
@[simp] theorem State.putAnswers_preset (s : State) (a : AnswerUnit) : (s.putAnswers a).preset = s.preset := rfl
@[simp] theorem State.putAnswers_memory (s : State) (a : AnswerUnit) : (s.putAnswers a).memory = s.memory := rfl
@[simp] theorem State.putAnswers_choices (s : State) (a : AnswerUnit) : (s.putAnswers a).choices = s.choices := rfl
@[simp] theorem State.putAnswers_pending (s : State) (a : AnswerUnit) : (s.putAnswers a).pending = s.pending := rfl

@[simp] theorem State.putProtect_clock (s : State) (p : Protect) : (s.putProtect p).clock = s.clock := rfl
@[simp] theorem State.putProtect_siteAddress (s : State) (p : Protect) : (s.putProtect p).siteAddress = s.siteAddress := rfl
@[simp] theorem State.putProtect_loadSource (s : State) (p : Protect) : (s.putProtect p).loadSource = s.loadSource := rfl
@[simp] theorem State.putProtect_guard (s : State) (p : Protect) : (s.putProtect p).guard = s.guard := rfl
@[simp] theorem State.putProtect_tables (s : State) (p : Protect) : (s.putProtect p).tables = s.tables := rfl
@[simp] theorem State.putProtect_titles (s : State) (p : Protect) : (s.putProtect p).titles = s.titles := rfl
@[simp] theorem State.putProtect_lanes (s : State) (p : Protect) : (s.putProtect p).lanes = s.lanes := rfl
@[simp] theorem State.putProtect_recentCues (s : State) (p : Protect) : (s.putProtect p).recentCues = s.recentCues := rfl
@[simp] theorem State.putProtect_timebase (s : State) (p : Protect) : (s.putProtect p).timebase = s.timebase := rfl
@[simp] theorem State.putProtect_sync (s : State) (p : Protect) : (s.putProtect p).sync = s.sync := rfl
@[simp] theorem State.putProtect_feed (s : State) (p : Protect) : (s.putProtect p).feed = s.feed := rfl
@[simp] theorem State.putProtect_monitor (s : State) (p : Protect) : (s.putProtect p).monitor = s.monitor := rfl
@[simp] theorem State.putProtect_hold (s : State) (p : Protect) : (s.putProtect p).hold = s.hold := rfl
@[simp] theorem State.putProtect_answers (s : State) (p : Protect) : (s.putProtect p).answers = s.answers := rfl
@[simp] theorem State.putProtect_protect (s : State) (p : Protect) : (s.putProtect p).protect = p := rfl
@[simp] theorem State.putProtect_frozen (s : State) (p : Protect) : (s.putProtect p).frozen = s.frozen := rfl
@[simp] theorem State.putProtect_preset (s : State) (p : Protect) : (s.putProtect p).preset = s.preset := rfl
@[simp] theorem State.putProtect_memory (s : State) (p : Protect) : (s.putProtect p).memory = s.memory := rfl
@[simp] theorem State.putProtect_choices (s : State) (p : Protect) : (s.putProtect p).choices = s.choices := rfl
@[simp] theorem State.putProtect_pending (s : State) (p : Protect) : (s.putProtect p).pending = s.pending := rfl

@[simp] theorem State.putFrozen_clock (s : State) (v : Vector (Option Frozen) 4) : (s.putFrozen v).clock = s.clock := rfl
@[simp] theorem State.putFrozen_siteAddress (s : State) (v : Vector (Option Frozen) 4) : (s.putFrozen v).siteAddress = s.siteAddress := rfl
@[simp] theorem State.putFrozen_loadSource (s : State) (v : Vector (Option Frozen) 4) : (s.putFrozen v).loadSource = s.loadSource := rfl
@[simp] theorem State.putFrozen_guard (s : State) (v : Vector (Option Frozen) 4) : (s.putFrozen v).guard = s.guard := rfl
@[simp] theorem State.putFrozen_tables (s : State) (v : Vector (Option Frozen) 4) : (s.putFrozen v).tables = s.tables := rfl
@[simp] theorem State.putFrozen_titles (s : State) (v : Vector (Option Frozen) 4) : (s.putFrozen v).titles = s.titles := rfl
@[simp] theorem State.putFrozen_lanes (s : State) (v : Vector (Option Frozen) 4) : (s.putFrozen v).lanes = s.lanes := rfl
@[simp] theorem State.putFrozen_recentCues (s : State) (v : Vector (Option Frozen) 4) : (s.putFrozen v).recentCues = s.recentCues := rfl
@[simp] theorem State.putFrozen_timebase (s : State) (v : Vector (Option Frozen) 4) : (s.putFrozen v).timebase = s.timebase := rfl
@[simp] theorem State.putFrozen_sync (s : State) (v : Vector (Option Frozen) 4) : (s.putFrozen v).sync = s.sync := rfl
@[simp] theorem State.putFrozen_feed (s : State) (v : Vector (Option Frozen) 4) : (s.putFrozen v).feed = s.feed := rfl
@[simp] theorem State.putFrozen_monitor (s : State) (v : Vector (Option Frozen) 4) : (s.putFrozen v).monitor = s.monitor := rfl
@[simp] theorem State.putFrozen_hold (s : State) (v : Vector (Option Frozen) 4) : (s.putFrozen v).hold = s.hold := rfl
@[simp] theorem State.putFrozen_answers (s : State) (v : Vector (Option Frozen) 4) : (s.putFrozen v).answers = s.answers := rfl
@[simp] theorem State.putFrozen_protect (s : State) (v : Vector (Option Frozen) 4) : (s.putFrozen v).protect = s.protect := rfl
@[simp] theorem State.putFrozen_frozen (s : State) (v : Vector (Option Frozen) 4) : (s.putFrozen v).frozen = v := rfl
@[simp] theorem State.putFrozen_preset (s : State) (v : Vector (Option Frozen) 4) : (s.putFrozen v).preset = s.preset := rfl
@[simp] theorem State.putFrozen_memory (s : State) (v : Vector (Option Frozen) 4) : (s.putFrozen v).memory = s.memory := rfl
@[simp] theorem State.putFrozen_choices (s : State) (v : Vector (Option Frozen) 4) : (s.putFrozen v).choices = s.choices := rfl
@[simp] theorem State.putFrozen_pending (s : State) (v : Vector (Option Frozen) 4) : (s.putFrozen v).pending = s.pending := rfl

@[simp] theorem State.putPreset_clock (s : State) (p : Preset) : (s.putPreset p).clock = s.clock := rfl
@[simp] theorem State.putPreset_siteAddress (s : State) (p : Preset) : (s.putPreset p).siteAddress = s.siteAddress := rfl
@[simp] theorem State.putPreset_loadSource (s : State) (p : Preset) : (s.putPreset p).loadSource = s.loadSource := rfl
@[simp] theorem State.putPreset_guard (s : State) (p : Preset) : (s.putPreset p).guard = s.guard := rfl
@[simp] theorem State.putPreset_tables (s : State) (p : Preset) : (s.putPreset p).tables = s.tables := rfl
@[simp] theorem State.putPreset_titles (s : State) (p : Preset) : (s.putPreset p).titles = s.titles := rfl
@[simp] theorem State.putPreset_lanes (s : State) (p : Preset) : (s.putPreset p).lanes = s.lanes := rfl
@[simp] theorem State.putPreset_recentCues (s : State) (p : Preset) : (s.putPreset p).recentCues = s.recentCues := rfl
@[simp] theorem State.putPreset_timebase (s : State) (p : Preset) : (s.putPreset p).timebase = s.timebase := rfl
@[simp] theorem State.putPreset_sync (s : State) (p : Preset) : (s.putPreset p).sync = s.sync := rfl
@[simp] theorem State.putPreset_feed (s : State) (p : Preset) : (s.putPreset p).feed = s.feed := rfl
@[simp] theorem State.putPreset_monitor (s : State) (p : Preset) : (s.putPreset p).monitor = s.monitor := rfl
@[simp] theorem State.putPreset_hold (s : State) (p : Preset) : (s.putPreset p).hold = s.hold := rfl
@[simp] theorem State.putPreset_answers (s : State) (p : Preset) : (s.putPreset p).answers = s.answers := rfl
@[simp] theorem State.putPreset_protect (s : State) (p : Preset) : (s.putPreset p).protect = s.protect := rfl
@[simp] theorem State.putPreset_frozen (s : State) (p : Preset) : (s.putPreset p).frozen = s.frozen := rfl
@[simp] theorem State.putPreset_preset (s : State) (p : Preset) : (s.putPreset p).preset = p := rfl
@[simp] theorem State.putPreset_memory (s : State) (p : Preset) : (s.putPreset p).memory = s.memory := rfl
@[simp] theorem State.putPreset_choices (s : State) (p : Preset) : (s.putPreset p).choices = s.choices := rfl
@[simp] theorem State.putPreset_pending (s : State) (p : Preset) : (s.putPreset p).pending = s.pending := rfl

@[simp] theorem State.putMemory_clock (s : State) (m : PresetMemory) : (s.putMemory m).clock = s.clock := rfl
@[simp] theorem State.putMemory_siteAddress (s : State) (m : PresetMemory) : (s.putMemory m).siteAddress = s.siteAddress := rfl
@[simp] theorem State.putMemory_loadSource (s : State) (m : PresetMemory) : (s.putMemory m).loadSource = s.loadSource := rfl
@[simp] theorem State.putMemory_guard (s : State) (m : PresetMemory) : (s.putMemory m).guard = s.guard := rfl
@[simp] theorem State.putMemory_tables (s : State) (m : PresetMemory) : (s.putMemory m).tables = s.tables := rfl
@[simp] theorem State.putMemory_titles (s : State) (m : PresetMemory) : (s.putMemory m).titles = s.titles := rfl
@[simp] theorem State.putMemory_lanes (s : State) (m : PresetMemory) : (s.putMemory m).lanes = s.lanes := rfl
@[simp] theorem State.putMemory_recentCues (s : State) (m : PresetMemory) : (s.putMemory m).recentCues = s.recentCues := rfl
@[simp] theorem State.putMemory_timebase (s : State) (m : PresetMemory) : (s.putMemory m).timebase = s.timebase := rfl
@[simp] theorem State.putMemory_sync (s : State) (m : PresetMemory) : (s.putMemory m).sync = s.sync := rfl
@[simp] theorem State.putMemory_feed (s : State) (m : PresetMemory) : (s.putMemory m).feed = s.feed := rfl
@[simp] theorem State.putMemory_monitor (s : State) (m : PresetMemory) : (s.putMemory m).monitor = s.monitor := rfl
@[simp] theorem State.putMemory_hold (s : State) (m : PresetMemory) : (s.putMemory m).hold = s.hold := rfl
@[simp] theorem State.putMemory_answers (s : State) (m : PresetMemory) : (s.putMemory m).answers = s.answers := rfl
@[simp] theorem State.putMemory_protect (s : State) (m : PresetMemory) : (s.putMemory m).protect = s.protect := rfl
@[simp] theorem State.putMemory_frozen (s : State) (m : PresetMemory) : (s.putMemory m).frozen = s.frozen := rfl
@[simp] theorem State.putMemory_preset (s : State) (m : PresetMemory) : (s.putMemory m).preset = s.preset := rfl
@[simp] theorem State.putMemory_memory (s : State) (m : PresetMemory) : (s.putMemory m).memory = m := rfl
@[simp] theorem State.putMemory_choices (s : State) (m : PresetMemory) : (s.putMemory m).choices = s.choices := rfl
@[simp] theorem State.putMemory_pending (s : State) (m : PresetMemory) : (s.putMemory m).pending = s.pending := rfl

@[simp] theorem State.putPending_clock (s : State) (q : List Instr) : (s.putPending q).clock = s.clock := rfl
@[simp] theorem State.putPending_siteAddress (s : State) (q : List Instr) : (s.putPending q).siteAddress = s.siteAddress := rfl
@[simp] theorem State.putPending_loadSource (s : State) (q : List Instr) : (s.putPending q).loadSource = s.loadSource := rfl
@[simp] theorem State.putPending_guard (s : State) (q : List Instr) : (s.putPending q).guard = s.guard := rfl
@[simp] theorem State.putPending_tables (s : State) (q : List Instr) : (s.putPending q).tables = s.tables := rfl
@[simp] theorem State.putPending_titles (s : State) (q : List Instr) : (s.putPending q).titles = s.titles := rfl
@[simp] theorem State.putPending_lanes (s : State) (q : List Instr) : (s.putPending q).lanes = s.lanes := rfl
@[simp] theorem State.putPending_recentCues (s : State) (q : List Instr) : (s.putPending q).recentCues = s.recentCues := rfl
@[simp] theorem State.putPending_timebase (s : State) (q : List Instr) : (s.putPending q).timebase = s.timebase := rfl
@[simp] theorem State.putPending_sync (s : State) (q : List Instr) : (s.putPending q).sync = s.sync := rfl
@[simp] theorem State.putPending_feed (s : State) (q : List Instr) : (s.putPending q).feed = s.feed := rfl
@[simp] theorem State.putPending_monitor (s : State) (q : List Instr) : (s.putPending q).monitor = s.monitor := rfl
@[simp] theorem State.putPending_hold (s : State) (q : List Instr) : (s.putPending q).hold = s.hold := rfl
@[simp] theorem State.putPending_answers (s : State) (q : List Instr) : (s.putPending q).answers = s.answers := rfl
@[simp] theorem State.putPending_protect (s : State) (q : List Instr) : (s.putPending q).protect = s.protect := rfl
@[simp] theorem State.putPending_frozen (s : State) (q : List Instr) : (s.putPending q).frozen = s.frozen := rfl
@[simp] theorem State.putPending_preset (s : State) (q : List Instr) : (s.putPending q).preset = s.preset := rfl
@[simp] theorem State.putPending_memory (s : State) (q : List Instr) : (s.putPending q).memory = s.memory := rfl
@[simp] theorem State.putPending_choices (s : State) (q : List Instr) : (s.putPending q).choices = s.choices := rfl
@[simp] theorem State.putPending_pending (s : State) (q : List Instr) : (s.putPending q).pending = q := rfl

@[simp] theorem State.putChoices_clock (s : State) (n : Nat) : (s.putChoices n).clock = s.clock := rfl
@[simp] theorem State.putChoices_siteAddress (s : State) (n : Nat) : (s.putChoices n).siteAddress = s.siteAddress := rfl
@[simp] theorem State.putChoices_loadSource (s : State) (n : Nat) : (s.putChoices n).loadSource = s.loadSource := rfl
@[simp] theorem State.putChoices_guard (s : State) (n : Nat) : (s.putChoices n).guard = s.guard := rfl
@[simp] theorem State.putChoices_tables (s : State) (n : Nat) : (s.putChoices n).tables = s.tables := rfl
@[simp] theorem State.putChoices_titles (s : State) (n : Nat) : (s.putChoices n).titles = s.titles := rfl
@[simp] theorem State.putChoices_lanes (s : State) (n : Nat) : (s.putChoices n).lanes = s.lanes := rfl
@[simp] theorem State.putChoices_recentCues (s : State) (n : Nat) : (s.putChoices n).recentCues = s.recentCues := rfl
@[simp] theorem State.putChoices_timebase (s : State) (n : Nat) : (s.putChoices n).timebase = s.timebase := rfl
@[simp] theorem State.putChoices_sync (s : State) (n : Nat) : (s.putChoices n).sync = s.sync := rfl
@[simp] theorem State.putChoices_feed (s : State) (n : Nat) : (s.putChoices n).feed = s.feed := rfl
@[simp] theorem State.putChoices_monitor (s : State) (n : Nat) : (s.putChoices n).monitor = s.monitor := rfl
@[simp] theorem State.putChoices_hold (s : State) (n : Nat) : (s.putChoices n).hold = s.hold := rfl
@[simp] theorem State.putChoices_answers (s : State) (n : Nat) : (s.putChoices n).answers = s.answers := rfl
@[simp] theorem State.putChoices_protect (s : State) (n : Nat) : (s.putChoices n).protect = s.protect := rfl
@[simp] theorem State.putChoices_frozen (s : State) (n : Nat) : (s.putChoices n).frozen = s.frozen := rfl
@[simp] theorem State.putChoices_preset (s : State) (n : Nat) : (s.putChoices n).preset = s.preset := rfl
@[simp] theorem State.putChoices_memory (s : State) (n : Nat) : (s.putChoices n).memory = s.memory := rfl
@[simp] theorem State.putChoices_choices (s : State) (n : Nat) : (s.putChoices n).choices = n := rfl
@[simp] theorem State.putChoices_pending (s : State) (n : Nat) : (s.putChoices n).pending = s.pending := rfl

/-! ### The later of two updates of one field stands -/

@[simp] theorem State.putClock_putClock (s : State) (x y : Micros) : (s.putClock x).putClock y = s.putClock y := rfl
@[simp] theorem State.putGuard_putGuard (s : State) (x y : Bool) : (s.putGuard x).putGuard y = s.putGuard y := rfl
@[simp] theorem State.putTables_putTables (s : State) (x y : Tables) : (s.putTables x).putTables y = s.putTables y := rfl
@[simp] theorem State.putTitles_putTitles (s : State) (x y : Vector TitleRecord 16) : (s.putTitles x).putTitles y = s.putTitles y := rfl
@[simp] theorem State.putLanes_putLanes (s : State) (x y : Vector Lane 4) : (s.putLanes x).putLanes y = s.putLanes y := rfl
@[simp] theorem State.putRecentCues_putRecentCues (s : State) (x y : List Byte) : (s.putRecentCues x).putRecentCues y = s.putRecentCues y := rfl
@[simp] theorem State.putTimebase_putTimebase (s : State) (x y : Timebase) : (s.putTimebase x).putTimebase y = s.putTimebase y := rfl
@[simp] theorem State.putSync_putSync (s : State) (x y : SyncLine) : (s.putSync x).putSync y = s.putSync y := rfl
@[simp] theorem State.putFeed_putFeed (s : State) (x y : FeedPort) : (s.putFeed x).putFeed y = s.putFeed y := rfl
@[simp] theorem State.putMonitor_putMonitor (s : State) (x y : Monitor) : (s.putMonitor x).putMonitor y = s.putMonitor y := rfl
@[simp] theorem State.putHold_putHold (s : State) (x y : Hold) : (s.putHold x).putHold y = s.putHold y := rfl
@[simp] theorem State.putAnswers_putAnswers (s : State) (x y : AnswerUnit) : (s.putAnswers x).putAnswers y = s.putAnswers y := rfl
@[simp] theorem State.putProtect_putProtect (s : State) (x y : Protect) : (s.putProtect x).putProtect y = s.putProtect y := rfl
@[simp] theorem State.putFrozen_putFrozen (s : State) (x y : Vector (Option Frozen) 4) : (s.putFrozen x).putFrozen y = s.putFrozen y := rfl
@[simp] theorem State.putPreset_putPreset (s : State) (x y : Preset) : (s.putPreset x).putPreset y = s.putPreset y := rfl
@[simp] theorem State.putMemory_putMemory (s : State) (x y : PresetMemory) : (s.putMemory x).putMemory y = s.putMemory y := rfl
@[simp] theorem State.putPending_putPending (s : State) (x y : List Instr) : (s.putPending x).putPending y = s.putPending y := rfl
@[simp] theorem State.putChoices_putChoices (s : State) (x y : Nat) : (s.putChoices x).putChoices y = s.putChoices y := rfl

end Sys2Proof.Machine
end

