-- ==== Sys2Proof/Laws/Ops.lean ====
section
/-! SUPPORT. The shared operations: what each can do to the state, and what it leaves. -/

namespace Sys2Proof.Machine

/-! ### Time -/

/-- What has been sent by an instant leaves the frame in progress. -/
@[simp] theorem FeedPort.sentBy_inProgress (p : FeedPort) (t : Micros) (n : Nat) : (p.sentBy t n).inProgress = p.inProgress := rfl

/-- What has been sent by an instant leaves the frames still to be begun. -/
@[simp] theorem FeedPort.sentBy_forwards (p : FeedPort) (t : Micros) (n : Nat) : (p.sentBy t n).forwards = p.forwards := rfl

/-- An event from outside finds the frame in progress as it was. -/
@[simp] theorem State.clockAt_inProgress (s : State) (t : Micros) : (s.clockAt t).feed.inProgress = s.feed.inProgress := rfl

/-- An event from outside finds the frames still to be begun on FEED OUT as they were. -/
@[simp] theorem State.clockAt_forwards (s : State) (t : Micros) : (s.clockAt t).feed.forwards = s.feed.forwards := rfl

/-- The part's own timing reaches an instant as an event from outside does, or the clock already stands past it and nothing changes. -/
theorem State.clockTo_cases (s : State) (t : Micros) :
    (atOrBefore s.clock t = true ∧ s.clockTo t = s.clockAt t) ∨ (atOrBefore s.clock t = false ∧ s.clockTo t = s) := by
  unfold State.clockTo
  cases h : atOrBefore s.clock t <;> simp

/-- Time leaves the frame in progress. -/
@[simp] theorem State.clockTo_inProgress (s : State) (t : Micros) : (s.clockTo t).feed.inProgress = s.feed.inProgress := by
  unfold State.clockTo; split <;> rfl

/-- Time leaves the frames still to be begun on FEED OUT. -/
@[simp] theorem State.clockTo_forwards (s : State) (t : Micros) : (s.clockTo t).feed.forwards = s.feed.forwards := by
  unfold State.clockTo; split <;> rfl

/-! ### Answers and latches: they change the answer unit alone -/

/-- Queueing an answer changes the answer unit, by a join, or nothing. -/
theorem State.queueAnswer_eq (s : State) (a : Answer) :
    s.queueAnswer a = s.putAnswers (if s.listenOnly then s.answers else s.answers.join a) := by
  unfold State.queueAnswer
  split <;> rfl

/-- A join leaves latches other than ANSWER_LOST, the mask, the marker and a pending restart, and keeps the bounds. -/
theorem AnswerUnit.join_bounds (u : AnswerUnit) (a : Answer) (hq : u.queue.length ≤ 8) (hl : u.lost ≤ 255) :
    (u.join a).queue.length ≤ 8 ∧ (u.join a).lost ≤ 255 := by
  unfold AnswerUnit.join
  split
  · simp; omega
  · simp; split <;> omega

/-- A join leaves the alert mask. -/
@[simp] theorem AnswerUnit.join_mask (u : AnswerUnit) (a : Answer) : (u.join a).mask = u.mask := by
  unfold AnswerUnit.join
  split <;> rfl

/-- A join leaves the load marker. -/
@[simp] theorem AnswerUnit.join_marker (u : AnswerUnit) (a : Answer) : (u.join a).marker = u.marker := by
  unfold AnswerUnit.join
  split <;> rfl

/-- A join leaves a pending restart. -/
@[simp] theorem AnswerUnit.join_restartAt (u : AnswerUnit) (a : Answer) : (u.join a).restartAt = u.restartAt := by
  unfold AnswerUnit.join
  split <;> rfl

/-- Setting a latch changes the answer unit alone. -/
theorem State.latch_eq (s : State) (e : Event) : ∃ u, s.latch e = s.putAnswers u := by
  unfold State.latch
  split
  · exact ⟨s.answers, rfl⟩
  · split
    · exact ⟨_, State.queueAnswer_eq _ _⟩
    · exact ⟨_, rfl⟩

/-- Setting a latch on a condition changes the answer unit alone. -/
theorem State.latchIf_eq (s : State) (b : Bool) (e : Event) : ∃ u, s.latchIf b e = s.putAnswers u := by
  cases b
  · exact ⟨s.answers, rfl⟩
  · exact State.latch_eq s e

/-- Setting several latches changes the answer unit alone. -/
theorem State.latchAll_eq (s : State) (l : List Event) : ∃ u, s.latchAll l = s.putAnswers u := by
  induction l generalizing s with
  | nil => exact ⟨s.answers, rfl⟩
  | cons e l ih =>
    obtain ⟨u, hu⟩ := State.latch_eq s e
    obtain ⟨v, hv⟩ := ih (s.latch e)
    refine ⟨v, ?_⟩
    show (s.latch e).latchAll l = _
    rw [hv, hu]
    rfl

/-- Answering an order changes the answer unit alone. -/
theorem State.reply_eq (s : State) (r : Reply) (x : Result) (d : List Byte) : ∃ u, s.reply r x d = s.putAnswers u := by
  unfold State.reply
  split
  · exact ⟨_, State.queueAnswer_eq _ _⟩
  · exact ⟨s.answers, rfl⟩

@[simp] theorem State.clockAt_clock (s : State) (t : Micros) : (s.clockAt t).clock = t := rfl
@[simp] theorem State.clockAt_siteAddress (s : State) (t : Micros) : (s.clockAt t).siteAddress = s.siteAddress := rfl
@[simp] theorem State.clockTo_siteAddress (s : State) (t : Micros) : (s.clockTo t).siteAddress = s.siteAddress := by unfold State.clockTo; split <;> rfl
@[simp] theorem State.clockAt_loadSource (s : State) (t : Micros) : (s.clockAt t).loadSource = s.loadSource := rfl
@[simp] theorem State.clockTo_loadSource (s : State) (t : Micros) : (s.clockTo t).loadSource = s.loadSource := by unfold State.clockTo; split <;> rfl
@[simp] theorem State.clockAt_guard (s : State) (t : Micros) : (s.clockAt t).guard = s.guard := rfl
@[simp] theorem State.clockTo_guard (s : State) (t : Micros) : (s.clockTo t).guard = s.guard := by unfold State.clockTo; split <;> rfl
@[simp] theorem State.clockAt_tables (s : State) (t : Micros) : (s.clockAt t).tables = s.tables := rfl
@[simp] theorem State.clockTo_tables (s : State) (t : Micros) : (s.clockTo t).tables = s.tables := by unfold State.clockTo; split <;> rfl
@[simp] theorem State.clockAt_titles (s : State) (t : Micros) : (s.clockAt t).titles = s.titles := rfl
@[simp] theorem State.clockTo_titles (s : State) (t : Micros) : (s.clockTo t).titles = s.titles := by unfold State.clockTo; split <;> rfl
@[simp] theorem State.clockAt_lanes (s : State) (t : Micros) : (s.clockAt t).lanes = s.lanes := rfl
@[simp] theorem State.clockTo_lanes (s : State) (t : Micros) : (s.clockTo t).lanes = s.lanes := by unfold State.clockTo; split <;> rfl
@[simp] theorem State.clockAt_recentCues (s : State) (t : Micros) : (s.clockAt t).recentCues = s.recentCues := rfl
@[simp] theorem State.clockTo_recentCues (s : State) (t : Micros) : (s.clockTo t).recentCues = s.recentCues := by unfold State.clockTo; split <;> rfl
@[simp] theorem State.clockAt_timebase (s : State) (t : Micros) : (s.clockAt t).timebase = s.timebase := rfl
@[simp] theorem State.clockTo_timebase (s : State) (t : Micros) : (s.clockTo t).timebase = s.timebase := by unfold State.clockTo; split <;> rfl
@[simp] theorem State.clockAt_sync (s : State) (t : Micros) : (s.clockAt t).sync = s.sync := rfl
@[simp] theorem State.clockTo_sync (s : State) (t : Micros) : (s.clockTo t).sync = s.sync := by unfold State.clockTo; split <;> rfl
@[simp] theorem State.clockAt_monitor (s : State) (t : Micros) : (s.clockAt t).monitor = s.monitor := rfl
@[simp] theorem State.clockTo_monitor (s : State) (t : Micros) : (s.clockTo t).monitor = s.monitor := by unfold State.clockTo; split <;> rfl
@[simp] theorem State.clockAt_hold (s : State) (t : Micros) : (s.clockAt t).hold = s.hold := rfl
@[simp] theorem State.clockTo_hold (s : State) (t : Micros) : (s.clockTo t).hold = s.hold := by unfold State.clockTo; split <;> rfl
@[simp] theorem State.clockAt_answers (s : State) (t : Micros) : (s.clockAt t).answers = s.answers := rfl
@[simp] theorem State.clockTo_answers (s : State) (t : Micros) : (s.clockTo t).answers = s.answers := by unfold State.clockTo; split <;> rfl
@[simp] theorem State.clockAt_protect (s : State) (t : Micros) : (s.clockAt t).protect = s.protect := rfl
@[simp] theorem State.clockTo_protect (s : State) (t : Micros) : (s.clockTo t).protect = s.protect := by unfold State.clockTo; split <;> rfl
@[simp] theorem State.clockAt_frozen (s : State) (t : Micros) : (s.clockAt t).frozen = s.frozen := rfl
@[simp] theorem State.clockTo_frozen (s : State) (t : Micros) : (s.clockTo t).frozen = s.frozen := by unfold State.clockTo; split <;> rfl
@[simp] theorem State.clockAt_preset (s : State) (t : Micros) : (s.clockAt t).preset = s.preset := rfl
@[simp] theorem State.clockTo_preset (s : State) (t : Micros) : (s.clockTo t).preset = s.preset := by unfold State.clockTo; split <;> rfl
@[simp] theorem State.clockAt_memory (s : State) (t : Micros) : (s.clockAt t).memory = s.memory := rfl
@[simp] theorem State.clockTo_memory (s : State) (t : Micros) : (s.clockTo t).memory = s.memory := by unfold State.clockTo; split <;> rfl
@[simp] theorem State.clockAt_choices (s : State) (t : Micros) : (s.clockAt t).choices = s.choices := rfl
@[simp] theorem State.clockTo_choices (s : State) (t : Micros) : (s.clockTo t).choices = s.choices := by unfold State.clockTo; split <;> rfl
@[simp] theorem State.clockAt_pending (s : State) (t : Micros) : (s.clockAt t).pending = s.pending := rfl
@[simp] theorem State.clockTo_pending (s : State) (t : Micros) : (s.clockTo t).pending = s.pending := by unfold State.clockTo; split <;> rfl

@[simp] theorem State.queueAnswer_clock (s : State) (a : Answer) : (s.queueAnswer a).clock = s.clock := by rw [State.queueAnswer_eq]; rfl
@[simp] theorem State.queueAnswer_siteAddress (s : State) (a : Answer) : (s.queueAnswer a).siteAddress = s.siteAddress := by rw [State.queueAnswer_eq]; rfl
@[simp] theorem State.queueAnswer_loadSource (s : State) (a : Answer) : (s.queueAnswer a).loadSource = s.loadSource := by rw [State.queueAnswer_eq]; rfl
@[simp] theorem State.queueAnswer_guard (s : State) (a : Answer) : (s.queueAnswer a).guard = s.guard := by rw [State.queueAnswer_eq]; rfl
@[simp] theorem State.queueAnswer_tables (s : State) (a : Answer) : (s.queueAnswer a).tables = s.tables := by rw [State.queueAnswer_eq]; rfl
@[simp] theorem State.queueAnswer_titles (s : State) (a : Answer) : (s.queueAnswer a).titles = s.titles := by rw [State.queueAnswer_eq]; rfl
@[simp] theorem State.queueAnswer_lanes (s : State) (a : Answer) : (s.queueAnswer a).lanes = s.lanes := by rw [State.queueAnswer_eq]; rfl
@[simp] theorem State.queueAnswer_recentCues (s : State) (a : Answer) : (s.queueAnswer a).recentCues = s.recentCues := by rw [State.queueAnswer_eq]; rfl
@[simp] theorem State.queueAnswer_timebase (s : State) (a : Answer) : (s.queueAnswer a).timebase = s.timebase := by rw [State.queueAnswer_eq]; rfl
@[simp] theorem State.queueAnswer_sync (s : State) (a : Answer) : (s.queueAnswer a).sync = s.sync := by rw [State.queueAnswer_eq]; rfl
@[simp] theorem State.queueAnswer_feed (s : State) (a : Answer) : (s.queueAnswer a).feed = s.feed := by rw [State.queueAnswer_eq]; rfl
@[simp] theorem State.queueAnswer_monitor (s : State) (a : Answer) : (s.queueAnswer a).monitor = s.monitor := by rw [State.queueAnswer_eq]; rfl
@[simp] theorem State.queueAnswer_hold (s : State) (a : Answer) : (s.queueAnswer a).hold = s.hold := by rw [State.queueAnswer_eq]; rfl
@[simp] theorem State.queueAnswer_protect (s : State) (a : Answer) : (s.queueAnswer a).protect = s.protect := by rw [State.queueAnswer_eq]; rfl
@[simp] theorem State.queueAnswer_frozen (s : State) (a : Answer) : (s.queueAnswer a).frozen = s.frozen := by rw [State.queueAnswer_eq]; rfl
@[simp] theorem State.queueAnswer_preset (s : State) (a : Answer) : (s.queueAnswer a).preset = s.preset := by rw [State.queueAnswer_eq]; rfl
@[simp] theorem State.queueAnswer_memory (s : State) (a : Answer) : (s.queueAnswer a).memory = s.memory := by rw [State.queueAnswer_eq]; rfl
@[simp] theorem State.queueAnswer_choices (s : State) (a : Answer) : (s.queueAnswer a).choices = s.choices := by rw [State.queueAnswer_eq]; rfl
@[simp] theorem State.queueAnswer_pending (s : State) (a : Answer) : (s.queueAnswer a).pending = s.pending := by rw [State.queueAnswer_eq]; rfl

@[simp] theorem State.latch_clock (s : State) (e : Event) : (s.latch e).clock = s.clock := by obtain ⟨u, h⟩ := State.latch_eq s e; rw [h]; rfl
@[simp] theorem State.latch_siteAddress (s : State) (e : Event) : (s.latch e).siteAddress = s.siteAddress := by obtain ⟨u, h⟩ := State.latch_eq s e; rw [h]; rfl
@[simp] theorem State.latch_loadSource (s : State) (e : Event) : (s.latch e).loadSource = s.loadSource := by obtain ⟨u, h⟩ := State.latch_eq s e; rw [h]; rfl
@[simp] theorem State.latch_guard (s : State) (e : Event) : (s.latch e).guard = s.guard := by obtain ⟨u, h⟩ := State.latch_eq s e; rw [h]; rfl
@[simp] theorem State.latch_tables (s : State) (e : Event) : (s.latch e).tables = s.tables := by obtain ⟨u, h⟩ := State.latch_eq s e; rw [h]; rfl
@[simp] theorem State.latch_titles (s : State) (e : Event) : (s.latch e).titles = s.titles := by obtain ⟨u, h⟩ := State.latch_eq s e; rw [h]; rfl
@[simp] theorem State.latch_lanes (s : State) (e : Event) : (s.latch e).lanes = s.lanes := by obtain ⟨u, h⟩ := State.latch_eq s e; rw [h]; rfl
@[simp] theorem State.latch_recentCues (s : State) (e : Event) : (s.latch e).recentCues = s.recentCues := by obtain ⟨u, h⟩ := State.latch_eq s e; rw [h]; rfl
@[simp] theorem State.latch_timebase (s : State) (e : Event) : (s.latch e).timebase = s.timebase := by obtain ⟨u, h⟩ := State.latch_eq s e; rw [h]; rfl
@[simp] theorem State.latch_sync (s : State) (e : Event) : (s.latch e).sync = s.sync := by obtain ⟨u, h⟩ := State.latch_eq s e; rw [h]; rfl
@[simp] theorem State.latch_feed (s : State) (e : Event) : (s.latch e).feed = s.feed := by obtain ⟨u, h⟩ := State.latch_eq s e; rw [h]; rfl
@[simp] theorem State.latch_monitor (s : State) (e : Event) : (s.latch e).monitor = s.monitor := by obtain ⟨u, h⟩ := State.latch_eq s e; rw [h]; rfl
@[simp] theorem State.latch_hold (s : State) (e : Event) : (s.latch e).hold = s.hold := by obtain ⟨u, h⟩ := State.latch_eq s e; rw [h]; rfl
@[simp] theorem State.latch_protect (s : State) (e : Event) : (s.latch e).protect = s.protect := by obtain ⟨u, h⟩ := State.latch_eq s e; rw [h]; rfl
@[simp] theorem State.latch_frozen (s : State) (e : Event) : (s.latch e).frozen = s.frozen := by obtain ⟨u, h⟩ := State.latch_eq s e; rw [h]; rfl
@[simp] theorem State.latch_preset (s : State) (e : Event) : (s.latch e).preset = s.preset := by obtain ⟨u, h⟩ := State.latch_eq s e; rw [h]; rfl
@[simp] theorem State.latch_memory (s : State) (e : Event) : (s.latch e).memory = s.memory := by obtain ⟨u, h⟩ := State.latch_eq s e; rw [h]; rfl
@[simp] theorem State.latch_choices (s : State) (e : Event) : (s.latch e).choices = s.choices := by obtain ⟨u, h⟩ := State.latch_eq s e; rw [h]; rfl
@[simp] theorem State.latch_pending (s : State) (e : Event) : (s.latch e).pending = s.pending := by obtain ⟨u, h⟩ := State.latch_eq s e; rw [h]; rfl

@[simp] theorem State.latchIf_clock (s : State) (b : Bool) (e : Event) : (s.latchIf b e).clock = s.clock := by obtain ⟨u, h⟩ := State.latchIf_eq s b e; rw [h]; rfl
@[simp] theorem State.latchIf_siteAddress (s : State) (b : Bool) (e : Event) : (s.latchIf b e).siteAddress = s.siteAddress := by obtain ⟨u, h⟩ := State.latchIf_eq s b e; rw [h]; rfl
@[simp] theorem State.latchIf_loadSource (s : State) (b : Bool) (e : Event) : (s.latchIf b e).loadSource = s.loadSource := by obtain ⟨u, h⟩ := State.latchIf_eq s b e; rw [h]; rfl
@[simp] theorem State.latchIf_guard (s : State) (b : Bool) (e : Event) : (s.latchIf b e).guard = s.guard := by obtain ⟨u, h⟩ := State.latchIf_eq s b e; rw [h]; rfl
@[simp] theorem State.latchIf_tables (s : State) (b : Bool) (e : Event) : (s.latchIf b e).tables = s.tables := by obtain ⟨u, h⟩ := State.latchIf_eq s b e; rw [h]; rfl
@[simp] theorem State.latchIf_titles (s : State) (b : Bool) (e : Event) : (s.latchIf b e).titles = s.titles := by obtain ⟨u, h⟩ := State.latchIf_eq s b e; rw [h]; rfl
@[simp] theorem State.latchIf_lanes (s : State) (b : Bool) (e : Event) : (s.latchIf b e).lanes = s.lanes := by obtain ⟨u, h⟩ := State.latchIf_eq s b e; rw [h]; rfl
@[simp] theorem State.latchIf_recentCues (s : State) (b : Bool) (e : Event) : (s.latchIf b e).recentCues = s.recentCues := by obtain ⟨u, h⟩ := State.latchIf_eq s b e; rw [h]; rfl
@[simp] theorem State.latchIf_timebase (s : State) (b : Bool) (e : Event) : (s.latchIf b e).timebase = s.timebase := by obtain ⟨u, h⟩ := State.latchIf_eq s b e; rw [h]; rfl
@[simp] theorem State.latchIf_sync (s : State) (b : Bool) (e : Event) : (s.latchIf b e).sync = s.sync := by obtain ⟨u, h⟩ := State.latchIf_eq s b e; rw [h]; rfl
@[simp] theorem State.latchIf_feed (s : State) (b : Bool) (e : Event) : (s.latchIf b e).feed = s.feed := by obtain ⟨u, h⟩ := State.latchIf_eq s b e; rw [h]; rfl
@[simp] theorem State.latchIf_monitor (s : State) (b : Bool) (e : Event) : (s.latchIf b e).monitor = s.monitor := by obtain ⟨u, h⟩ := State.latchIf_eq s b e; rw [h]; rfl
@[simp] theorem State.latchIf_hold (s : State) (b : Bool) (e : Event) : (s.latchIf b e).hold = s.hold := by obtain ⟨u, h⟩ := State.latchIf_eq s b e; rw [h]; rfl
@[simp] theorem State.latchIf_protect (s : State) (b : Bool) (e : Event) : (s.latchIf b e).protect = s.protect := by obtain ⟨u, h⟩ := State.latchIf_eq s b e; rw [h]; rfl
@[simp] theorem State.latchIf_frozen (s : State) (b : Bool) (e : Event) : (s.latchIf b e).frozen = s.frozen := by obtain ⟨u, h⟩ := State.latchIf_eq s b e; rw [h]; rfl
@[simp] theorem State.latchIf_preset (s : State) (b : Bool) (e : Event) : (s.latchIf b e).preset = s.preset := by obtain ⟨u, h⟩ := State.latchIf_eq s b e; rw [h]; rfl
@[simp] theorem State.latchIf_memory (s : State) (b : Bool) (e : Event) : (s.latchIf b e).memory = s.memory := by obtain ⟨u, h⟩ := State.latchIf_eq s b e; rw [h]; rfl
@[simp] theorem State.latchIf_choices (s : State) (b : Bool) (e : Event) : (s.latchIf b e).choices = s.choices := by obtain ⟨u, h⟩ := State.latchIf_eq s b e; rw [h]; rfl
@[simp] theorem State.latchIf_pending (s : State) (b : Bool) (e : Event) : (s.latchIf b e).pending = s.pending := by obtain ⟨u, h⟩ := State.latchIf_eq s b e; rw [h]; rfl

@[simp] theorem State.latchAll_clock (s : State) (l : List Event) : (s.latchAll l).clock = s.clock := by obtain ⟨u, h⟩ := State.latchAll_eq s l; rw [h]; rfl
@[simp] theorem State.latchAll_siteAddress (s : State) (l : List Event) : (s.latchAll l).siteAddress = s.siteAddress := by obtain ⟨u, h⟩ := State.latchAll_eq s l; rw [h]; rfl
@[simp] theorem State.latchAll_loadSource (s : State) (l : List Event) : (s.latchAll l).loadSource = s.loadSource := by obtain ⟨u, h⟩ := State.latchAll_eq s l; rw [h]; rfl
@[simp] theorem State.latchAll_guard (s : State) (l : List Event) : (s.latchAll l).guard = s.guard := by obtain ⟨u, h⟩ := State.latchAll_eq s l; rw [h]; rfl
@[simp] theorem State.latchAll_tables (s : State) (l : List Event) : (s.latchAll l).tables = s.tables := by obtain ⟨u, h⟩ := State.latchAll_eq s l; rw [h]; rfl
@[simp] theorem State.latchAll_titles (s : State) (l : List Event) : (s.latchAll l).titles = s.titles := by obtain ⟨u, h⟩ := State.latchAll_eq s l; rw [h]; rfl
@[simp] theorem State.latchAll_lanes (s : State) (l : List Event) : (s.latchAll l).lanes = s.lanes := by obtain ⟨u, h⟩ := State.latchAll_eq s l; rw [h]; rfl
@[simp] theorem State.latchAll_recentCues (s : State) (l : List Event) : (s.latchAll l).recentCues = s.recentCues := by obtain ⟨u, h⟩ := State.latchAll_eq s l; rw [h]; rfl
@[simp] theorem State.latchAll_timebase (s : State) (l : List Event) : (s.latchAll l).timebase = s.timebase := by obtain ⟨u, h⟩ := State.latchAll_eq s l; rw [h]; rfl
@[simp] theorem State.latchAll_sync (s : State) (l : List Event) : (s.latchAll l).sync = s.sync := by obtain ⟨u, h⟩ := State.latchAll_eq s l; rw [h]; rfl
@[simp] theorem State.latchAll_feed (s : State) (l : List Event) : (s.latchAll l).feed = s.feed := by obtain ⟨u, h⟩ := State.latchAll_eq s l; rw [h]; rfl
@[simp] theorem State.latchAll_monitor (s : State) (l : List Event) : (s.latchAll l).monitor = s.monitor := by obtain ⟨u, h⟩ := State.latchAll_eq s l; rw [h]; rfl
@[simp] theorem State.latchAll_hold (s : State) (l : List Event) : (s.latchAll l).hold = s.hold := by obtain ⟨u, h⟩ := State.latchAll_eq s l; rw [h]; rfl
@[simp] theorem State.latchAll_protect (s : State) (l : List Event) : (s.latchAll l).protect = s.protect := by obtain ⟨u, h⟩ := State.latchAll_eq s l; rw [h]; rfl
@[simp] theorem State.latchAll_frozen (s : State) (l : List Event) : (s.latchAll l).frozen = s.frozen := by obtain ⟨u, h⟩ := State.latchAll_eq s l; rw [h]; rfl
@[simp] theorem State.latchAll_preset (s : State) (l : List Event) : (s.latchAll l).preset = s.preset := by obtain ⟨u, h⟩ := State.latchAll_eq s l; rw [h]; rfl
@[simp] theorem State.latchAll_memory (s : State) (l : List Event) : (s.latchAll l).memory = s.memory := by obtain ⟨u, h⟩ := State.latchAll_eq s l; rw [h]; rfl
@[simp] theorem State.latchAll_choices (s : State) (l : List Event) : (s.latchAll l).choices = s.choices := by obtain ⟨u, h⟩ := State.latchAll_eq s l; rw [h]; rfl
@[simp] theorem State.latchAll_pending (s : State) (l : List Event) : (s.latchAll l).pending = s.pending := by obtain ⟨u, h⟩ := State.latchAll_eq s l; rw [h]; rfl

@[simp] theorem State.reply_clock (s : State) (r : Reply) (x : Result) (d : List Byte) : (s.reply r x d).clock = s.clock := by obtain ⟨u, h⟩ := State.reply_eq s r x d; rw [h]; rfl
@[simp] theorem State.reply_siteAddress (s : State) (r : Reply) (x : Result) (d : List Byte) : (s.reply r x d).siteAddress = s.siteAddress := by obtain ⟨u, h⟩ := State.reply_eq s r x d; rw [h]; rfl
@[simp] theorem State.reply_loadSource (s : State) (r : Reply) (x : Result) (d : List Byte) : (s.reply r x d).loadSource = s.loadSource := by obtain ⟨u, h⟩ := State.reply_eq s r x d; rw [h]; rfl
@[simp] theorem State.reply_guard (s : State) (r : Reply) (x : Result) (d : List Byte) : (s.reply r x d).guard = s.guard := by obtain ⟨u, h⟩ := State.reply_eq s r x d; rw [h]; rfl
@[simp] theorem State.reply_tables (s : State) (r : Reply) (x : Result) (d : List Byte) : (s.reply r x d).tables = s.tables := by obtain ⟨u, h⟩ := State.reply_eq s r x d; rw [h]; rfl
@[simp] theorem State.reply_titles (s : State) (r : Reply) (x : Result) (d : List Byte) : (s.reply r x d).titles = s.titles := by obtain ⟨u, h⟩ := State.reply_eq s r x d; rw [h]; rfl
@[simp] theorem State.reply_lanes (s : State) (r : Reply) (x : Result) (d : List Byte) : (s.reply r x d).lanes = s.lanes := by obtain ⟨u, h⟩ := State.reply_eq s r x d; rw [h]; rfl
@[simp] theorem State.reply_recentCues (s : State) (r : Reply) (x : Result) (d : List Byte) : (s.reply r x d).recentCues = s.recentCues := by obtain ⟨u, h⟩ := State.reply_eq s r x d; rw [h]; rfl
@[simp] theorem State.reply_timebase (s : State) (r : Reply) (x : Result) (d : List Byte) : (s.reply r x d).timebase = s.timebase := by obtain ⟨u, h⟩ := State.reply_eq s r x d; rw [h]; rfl
@[simp] theorem State.reply_sync (s : State) (r : Reply) (x : Result) (d : List Byte) : (s.reply r x d).sync = s.sync := by obtain ⟨u, h⟩ := State.reply_eq s r x d; rw [h]; rfl
@[simp] theorem State.reply_feed (s : State) (r : Reply) (x : Result) (d : List Byte) : (s.reply r x d).feed = s.feed := by obtain ⟨u, h⟩ := State.reply_eq s r x d; rw [h]; rfl
@[simp] theorem State.reply_monitor (s : State) (r : Reply) (x : Result) (d : List Byte) : (s.reply r x d).monitor = s.monitor := by obtain ⟨u, h⟩ := State.reply_eq s r x d; rw [h]; rfl
@[simp] theorem State.reply_hold (s : State) (r : Reply) (x : Result) (d : List Byte) : (s.reply r x d).hold = s.hold := by obtain ⟨u, h⟩ := State.reply_eq s r x d; rw [h]; rfl
@[simp] theorem State.reply_protect (s : State) (r : Reply) (x : Result) (d : List Byte) : (s.reply r x d).protect = s.protect := by obtain ⟨u, h⟩ := State.reply_eq s r x d; rw [h]; rfl
@[simp] theorem State.reply_frozen (s : State) (r : Reply) (x : Result) (d : List Byte) : (s.reply r x d).frozen = s.frozen := by obtain ⟨u, h⟩ := State.reply_eq s r x d; rw [h]; rfl
@[simp] theorem State.reply_preset (s : State) (r : Reply) (x : Result) (d : List Byte) : (s.reply r x d).preset = s.preset := by obtain ⟨u, h⟩ := State.reply_eq s r x d; rw [h]; rfl
@[simp] theorem State.reply_memory (s : State) (r : Reply) (x : Result) (d : List Byte) : (s.reply r x d).memory = s.memory := by obtain ⟨u, h⟩ := State.reply_eq s r x d; rw [h]; rfl
@[simp] theorem State.reply_choices (s : State) (r : Reply) (x : Result) (d : List Byte) : (s.reply r x d).choices = s.choices := by obtain ⟨u, h⟩ := State.reply_eq s r x d; rw [h]; rfl
@[simp] theorem State.reply_pending (s : State) (r : Reply) (x : Result) (d : List Byte) : (s.reply r x d).pending = s.pending := by obtain ⟨u, h⟩ := State.reply_eq s r x d; rw [h]; rfl

/-! ### Hold -/

/-- A firing of the hold changes nothing of a lane but its hold-pending flag. -/
theorem Lane.heldBy_eq (l : Lane) (b : Bool) :
    l.heldBy b = { l with holdPending := l.holdPending || (b && l.mode == .onAir) } := by
  unfold Lane.heldBy
  cases h : (b && l.mode == .onAir) <;> simp

/-- Bringing the episode into line changes the hold and the lanes' hold-pending flags alone. -/
theorem State.syncHold_eq (s : State) : ∃ h v, s.syncHold = (s.putHold h).putLanes v := by
  unfold State.syncHold
  split
  · exact ⟨_, _, rfl⟩
  · split
    · exact ⟨Hold.none, s.lanes, rfl⟩
    · exact ⟨s.hold, s.lanes, rfl⟩

@[simp] theorem State.syncHold_clock (s : State) : (s.syncHold).clock = s.clock := by obtain ⟨h, v, e⟩ := State.syncHold_eq s; rw [e]; rfl
@[simp] theorem State.syncHold_siteAddress (s : State) : (s.syncHold).siteAddress = s.siteAddress := by obtain ⟨h, v, e⟩ := State.syncHold_eq s; rw [e]; rfl
@[simp] theorem State.syncHold_loadSource (s : State) : (s.syncHold).loadSource = s.loadSource := by obtain ⟨h, v, e⟩ := State.syncHold_eq s; rw [e]; rfl
@[simp] theorem State.syncHold_guard (s : State) : (s.syncHold).guard = s.guard := by obtain ⟨h, v, e⟩ := State.syncHold_eq s; rw [e]; rfl
@[simp] theorem State.syncHold_tables (s : State) : (s.syncHold).tables = s.tables := by obtain ⟨h, v, e⟩ := State.syncHold_eq s; rw [e]; rfl
@[simp] theorem State.syncHold_titles (s : State) : (s.syncHold).titles = s.titles := by obtain ⟨h, v, e⟩ := State.syncHold_eq s; rw [e]; rfl
@[simp] theorem State.syncHold_recentCues (s : State) : (s.syncHold).recentCues = s.recentCues := by obtain ⟨h, v, e⟩ := State.syncHold_eq s; rw [e]; rfl
@[simp] theorem State.syncHold_timebase (s : State) : (s.syncHold).timebase = s.timebase := by obtain ⟨h, v, e⟩ := State.syncHold_eq s; rw [e]; rfl
@[simp] theorem State.syncHold_sync (s : State) : (s.syncHold).sync = s.sync := by obtain ⟨h, v, e⟩ := State.syncHold_eq s; rw [e]; rfl
@[simp] theorem State.syncHold_feed (s : State) : (s.syncHold).feed = s.feed := by obtain ⟨h, v, e⟩ := State.syncHold_eq s; rw [e]; rfl
@[simp] theorem State.syncHold_monitor (s : State) : (s.syncHold).monitor = s.monitor := by obtain ⟨h, v, e⟩ := State.syncHold_eq s; rw [e]; rfl
@[simp] theorem State.syncHold_answers (s : State) : (s.syncHold).answers = s.answers := by obtain ⟨h, v, e⟩ := State.syncHold_eq s; rw [e]; rfl
@[simp] theorem State.syncHold_protect (s : State) : (s.syncHold).protect = s.protect := by obtain ⟨h, v, e⟩ := State.syncHold_eq s; rw [e]; rfl
@[simp] theorem State.syncHold_frozen (s : State) : (s.syncHold).frozen = s.frozen := by obtain ⟨h, v, e⟩ := State.syncHold_eq s; rw [e]; rfl
@[simp] theorem State.syncHold_preset (s : State) : (s.syncHold).preset = s.preset := by obtain ⟨h, v, e⟩ := State.syncHold_eq s; rw [e]; rfl
@[simp] theorem State.syncHold_memory (s : State) : (s.syncHold).memory = s.memory := by obtain ⟨h, v, e⟩ := State.syncHold_eq s; rw [e]; rfl
@[simp] theorem State.syncHold_choices (s : State) : (s.syncHold).choices = s.choices := by obtain ⟨h, v, e⟩ := State.syncHold_eq s; rw [e]; rfl
@[simp] theorem State.syncHold_pending (s : State) : (s.syncHold).pending = s.pending := by obtain ⟨h, v, e⟩ := State.syncHold_eq s; rw [e]; rfl

/-- After it the episode flag is the holdover report (R70). -/
theorem State.syncHold_episode (s : State) : s.syncHold.hold.episode = s.holdover := by
  unfold State.syncHold
  cases h : s.holdover <;> cases e : s.hold.episode <;> simp [e, State.beginEpisode, State.mapLanes, Hold.begun, Hold.none]

/-- A lane after it: its hold-pending flag is set where an episode begins under a hold limit of 0 and the lane is ON_AIR (R71). -/
theorem State.syncHold_lane (s : State) (n : LaneNo) :
    s.syncHold.lanes[n] = s.lanes[n].heldBy (s.holdover && !s.hold.episode && s.tables.site.holdLimit == 0) := by
  unfold State.syncHold
  cases h : s.holdover <;> cases e : s.hold.episode <;> simp [State.beginEpisode, State.mapLanes, Lane.heldBy]

/-- The hold's firing changes the hold and the lanes' hold-pending flags alone. -/
theorem State.fireHold_eq (s : State) : ∃ h v, s.fireHold = (s.putHold h).putLanes v := by
  unfold State.fireHold
  split
  · exact ⟨_, _, rfl⟩
  · exact ⟨s.hold, s.lanes, rfl⟩

@[simp] theorem State.fireHold_clock (s : State) : (s.fireHold).clock = s.clock := by obtain ⟨h, v, e⟩ := State.fireHold_eq s; rw [e]; rfl
@[simp] theorem State.fireHold_siteAddress (s : State) : (s.fireHold).siteAddress = s.siteAddress := by obtain ⟨h, v, e⟩ := State.fireHold_eq s; rw [e]; rfl
@[simp] theorem State.fireHold_loadSource (s : State) : (s.fireHold).loadSource = s.loadSource := by obtain ⟨h, v, e⟩ := State.fireHold_eq s; rw [e]; rfl
@[simp] theorem State.fireHold_guard (s : State) : (s.fireHold).guard = s.guard := by obtain ⟨h, v, e⟩ := State.fireHold_eq s; rw [e]; rfl
@[simp] theorem State.fireHold_tables (s : State) : (s.fireHold).tables = s.tables := by obtain ⟨h, v, e⟩ := State.fireHold_eq s; rw [e]; rfl
@[simp] theorem State.fireHold_titles (s : State) : (s.fireHold).titles = s.titles := by obtain ⟨h, v, e⟩ := State.fireHold_eq s; rw [e]; rfl
@[simp] theorem State.fireHold_recentCues (s : State) : (s.fireHold).recentCues = s.recentCues := by obtain ⟨h, v, e⟩ := State.fireHold_eq s; rw [e]; rfl
@[simp] theorem State.fireHold_timebase (s : State) : (s.fireHold).timebase = s.timebase := by obtain ⟨h, v, e⟩ := State.fireHold_eq s; rw [e]; rfl
@[simp] theorem State.fireHold_sync (s : State) : (s.fireHold).sync = s.sync := by obtain ⟨h, v, e⟩ := State.fireHold_eq s; rw [e]; rfl
@[simp] theorem State.fireHold_feed (s : State) : (s.fireHold).feed = s.feed := by obtain ⟨h, v, e⟩ := State.fireHold_eq s; rw [e]; rfl
@[simp] theorem State.fireHold_monitor (s : State) : (s.fireHold).monitor = s.monitor := by obtain ⟨h, v, e⟩ := State.fireHold_eq s; rw [e]; rfl
@[simp] theorem State.fireHold_answers (s : State) : (s.fireHold).answers = s.answers := by obtain ⟨h, v, e⟩ := State.fireHold_eq s; rw [e]; rfl
@[simp] theorem State.fireHold_protect (s : State) : (s.fireHold).protect = s.protect := by obtain ⟨h, v, e⟩ := State.fireHold_eq s; rw [e]; rfl
@[simp] theorem State.fireHold_frozen (s : State) : (s.fireHold).frozen = s.frozen := by obtain ⟨h, v, e⟩ := State.fireHold_eq s; rw [e]; rfl
@[simp] theorem State.fireHold_preset (s : State) : (s.fireHold).preset = s.preset := by obtain ⟨h, v, e⟩ := State.fireHold_eq s; rw [e]; rfl
@[simp] theorem State.fireHold_memory (s : State) : (s.fireHold).memory = s.memory := by obtain ⟨h, v, e⟩ := State.fireHold_eq s; rw [e]; rfl
@[simp] theorem State.fireHold_choices (s : State) : (s.fireHold).choices = s.choices := by obtain ⟨h, v, e⟩ := State.fireHold_eq s; rw [e]; rfl
@[simp] theorem State.fireHold_pending (s : State) : (s.fireHold).pending = s.pending := by obtain ⟨h, v, e⟩ := State.fireHold_eq s; rw [e]; rfl

/-! ### Lanes and tables -/

@[simp] theorem State.modLane_clock (s : State) (n : LaneNo) (f : Lane → Lane) : (s.modLane n f).clock = s.clock := by rfl
@[simp] theorem State.modLane_siteAddress (s : State) (n : LaneNo) (f : Lane → Lane) : (s.modLane n f).siteAddress = s.siteAddress := by rfl
@[simp] theorem State.modLane_loadSource (s : State) (n : LaneNo) (f : Lane → Lane) : (s.modLane n f).loadSource = s.loadSource := by rfl
@[simp] theorem State.modLane_guard (s : State) (n : LaneNo) (f : Lane → Lane) : (s.modLane n f).guard = s.guard := by rfl
@[simp] theorem State.modLane_tables (s : State) (n : LaneNo) (f : Lane → Lane) : (s.modLane n f).tables = s.tables := by rfl
@[simp] theorem State.modLane_titles (s : State) (n : LaneNo) (f : Lane → Lane) : (s.modLane n f).titles = s.titles := by rfl
@[simp] theorem State.modLane_recentCues (s : State) (n : LaneNo) (f : Lane → Lane) : (s.modLane n f).recentCues = s.recentCues := by rfl
@[simp] theorem State.modLane_timebase (s : State) (n : LaneNo) (f : Lane → Lane) : (s.modLane n f).timebase = s.timebase := by rfl
@[simp] theorem State.modLane_sync (s : State) (n : LaneNo) (f : Lane → Lane) : (s.modLane n f).sync = s.sync := by rfl
@[simp] theorem State.modLane_feed (s : State) (n : LaneNo) (f : Lane → Lane) : (s.modLane n f).feed = s.feed := by rfl
@[simp] theorem State.modLane_monitor (s : State) (n : LaneNo) (f : Lane → Lane) : (s.modLane n f).monitor = s.monitor := by rfl
@[simp] theorem State.modLane_hold (s : State) (n : LaneNo) (f : Lane → Lane) : (s.modLane n f).hold = s.hold := by rfl
@[simp] theorem State.modLane_answers (s : State) (n : LaneNo) (f : Lane → Lane) : (s.modLane n f).answers = s.answers := by rfl
@[simp] theorem State.modLane_protect (s : State) (n : LaneNo) (f : Lane → Lane) : (s.modLane n f).protect = s.protect := by rfl
@[simp] theorem State.modLane_frozen (s : State) (n : LaneNo) (f : Lane → Lane) : (s.modLane n f).frozen = s.frozen := by rfl
@[simp] theorem State.modLane_preset (s : State) (n : LaneNo) (f : Lane → Lane) : (s.modLane n f).preset = s.preset := by rfl
@[simp] theorem State.modLane_memory (s : State) (n : LaneNo) (f : Lane → Lane) : (s.modLane n f).memory = s.memory := by rfl
@[simp] theorem State.modLane_choices (s : State) (n : LaneNo) (f : Lane → Lane) : (s.modLane n f).choices = s.choices := by rfl
@[simp] theorem State.modLane_pending (s : State) (n : LaneNo) (f : Lane → Lane) : (s.modLane n f).pending = s.pending := by rfl

@[simp] theorem State.mapLanes_clock (s : State) (f : Lane → Lane) : (s.mapLanes f).clock = s.clock := by rfl
@[simp] theorem State.mapLanes_siteAddress (s : State) (f : Lane → Lane) : (s.mapLanes f).siteAddress = s.siteAddress := by rfl
@[simp] theorem State.mapLanes_loadSource (s : State) (f : Lane → Lane) : (s.mapLanes f).loadSource = s.loadSource := by rfl
@[simp] theorem State.mapLanes_guard (s : State) (f : Lane → Lane) : (s.mapLanes f).guard = s.guard := by rfl
@[simp] theorem State.mapLanes_tables (s : State) (f : Lane → Lane) : (s.mapLanes f).tables = s.tables := by rfl
@[simp] theorem State.mapLanes_titles (s : State) (f : Lane → Lane) : (s.mapLanes f).titles = s.titles := by rfl
@[simp] theorem State.mapLanes_recentCues (s : State) (f : Lane → Lane) : (s.mapLanes f).recentCues = s.recentCues := by rfl
@[simp] theorem State.mapLanes_timebase (s : State) (f : Lane → Lane) : (s.mapLanes f).timebase = s.timebase := by rfl
@[simp] theorem State.mapLanes_sync (s : State) (f : Lane → Lane) : (s.mapLanes f).sync = s.sync := by rfl
@[simp] theorem State.mapLanes_feed (s : State) (f : Lane → Lane) : (s.mapLanes f).feed = s.feed := by rfl
@[simp] theorem State.mapLanes_monitor (s : State) (f : Lane → Lane) : (s.mapLanes f).monitor = s.monitor := by rfl
@[simp] theorem State.mapLanes_hold (s : State) (f : Lane → Lane) : (s.mapLanes f).hold = s.hold := by rfl
@[simp] theorem State.mapLanes_answers (s : State) (f : Lane → Lane) : (s.mapLanes f).answers = s.answers := by rfl
@[simp] theorem State.mapLanes_protect (s : State) (f : Lane → Lane) : (s.mapLanes f).protect = s.protect := by rfl
@[simp] theorem State.mapLanes_frozen (s : State) (f : Lane → Lane) : (s.mapLanes f).frozen = s.frozen := by rfl
@[simp] theorem State.mapLanes_preset (s : State) (f : Lane → Lane) : (s.mapLanes f).preset = s.preset := by rfl
@[simp] theorem State.mapLanes_memory (s : State) (f : Lane → Lane) : (s.mapLanes f).memory = s.memory := by rfl
@[simp] theorem State.mapLanes_choices (s : State) (f : Lane → Lane) : (s.mapLanes f).choices = s.choices := by rfl
@[simp] theorem State.mapLanes_pending (s : State) (f : Lane → Lane) : (s.mapLanes f).pending = s.pending := by rfl

/-- A change of one lane leaves the others. -/
theorem State.modLane_other (s : State) (n m : LaneNo) (f : Lane → Lane) (h : m ≠ n) : (s.modLane n f).lanes[m] = s.lanes[m] := by
  have h' : n.val ≠ m.val := fun e => h (Fin.ext e.symm)
  simp [State.modLane, h']

/-- A change of one lane changes it so. -/
theorem State.modLane_self (s : State) (n : LaneNo) (f : Lane → Lane) : (s.modLane n f).lanes[n] = f s.lanes[n] := by
  simp [State.modLane]

/-- A change of the tables changes the tables, the lanes and the hold alone. -/
theorem State.changeTables_eq (s : State) (T : Tables) :
    ∃ v h, s.changeTables T = (((s.putTables T).putLanes v).putHold h) := by
  obtain ⟨h, v, e⟩ := State.syncHold_eq ((s.putTables T).putLanes (Vector.ofFn (fun n : Fin 4 =>
    if T.cueLines[n].mode = s.tables.cueLines[n].mode then s.lanes[n]
    else { s.lanes[n] with cue := s.lanes[n].cue.modeChanged })))
  exact ⟨v, h, e⟩

@[simp] theorem State.changeTables_clock (s : State) (T : Tables) : (s.changeTables T).clock = s.clock := by obtain ⟨v, h, e⟩ := State.changeTables_eq s T; rw [e]; rfl
@[simp] theorem State.changeTables_siteAddress (s : State) (T : Tables) : (s.changeTables T).siteAddress = s.siteAddress := by obtain ⟨v, h, e⟩ := State.changeTables_eq s T; rw [e]; rfl
@[simp] theorem State.changeTables_loadSource (s : State) (T : Tables) : (s.changeTables T).loadSource = s.loadSource := by obtain ⟨v, h, e⟩ := State.changeTables_eq s T; rw [e]; rfl
@[simp] theorem State.changeTables_guard (s : State) (T : Tables) : (s.changeTables T).guard = s.guard := by obtain ⟨v, h, e⟩ := State.changeTables_eq s T; rw [e]; rfl
@[simp] theorem State.changeTables_titles (s : State) (T : Tables) : (s.changeTables T).titles = s.titles := by obtain ⟨v, h, e⟩ := State.changeTables_eq s T; rw [e]; rfl
@[simp] theorem State.changeTables_recentCues (s : State) (T : Tables) : (s.changeTables T).recentCues = s.recentCues := by obtain ⟨v, h, e⟩ := State.changeTables_eq s T; rw [e]; rfl
@[simp] theorem State.changeTables_timebase (s : State) (T : Tables) : (s.changeTables T).timebase = s.timebase := by obtain ⟨v, h, e⟩ := State.changeTables_eq s T; rw [e]; rfl
@[simp] theorem State.changeTables_sync (s : State) (T : Tables) : (s.changeTables T).sync = s.sync := by obtain ⟨v, h, e⟩ := State.changeTables_eq s T; rw [e]; rfl
@[simp] theorem State.changeTables_feed (s : State) (T : Tables) : (s.changeTables T).feed = s.feed := by obtain ⟨v, h, e⟩ := State.changeTables_eq s T; rw [e]; rfl
@[simp] theorem State.changeTables_monitor (s : State) (T : Tables) : (s.changeTables T).monitor = s.monitor := by obtain ⟨v, h, e⟩ := State.changeTables_eq s T; rw [e]; rfl
@[simp] theorem State.changeTables_answers (s : State) (T : Tables) : (s.changeTables T).answers = s.answers := by obtain ⟨v, h, e⟩ := State.changeTables_eq s T; rw [e]; rfl
@[simp] theorem State.changeTables_protect (s : State) (T : Tables) : (s.changeTables T).protect = s.protect := by obtain ⟨v, h, e⟩ := State.changeTables_eq s T; rw [e]; rfl
@[simp] theorem State.changeTables_frozen (s : State) (T : Tables) : (s.changeTables T).frozen = s.frozen := by obtain ⟨v, h, e⟩ := State.changeTables_eq s T; rw [e]; rfl
@[simp] theorem State.changeTables_preset (s : State) (T : Tables) : (s.changeTables T).preset = s.preset := by obtain ⟨v, h, e⟩ := State.changeTables_eq s T; rw [e]; rfl
@[simp] theorem State.changeTables_memory (s : State) (T : Tables) : (s.changeTables T).memory = s.memory := by obtain ⟨v, h, e⟩ := State.changeTables_eq s T; rw [e]; rfl
@[simp] theorem State.changeTables_choices (s : State) (T : Tables) : (s.changeTables T).choices = s.choices := by obtain ⟨v, h, e⟩ := State.changeTables_eq s T; rw [e]; rfl
@[simp] theorem State.changeTables_pending (s : State) (T : Tables) : (s.changeTables T).pending = s.pending := by obtain ⟨v, h, e⟩ := State.changeTables_eq s T; rw [e]; rfl

/-- A change of the tables puts the tables. -/
@[simp] theorem State.changeTables_tables (s : State) (T : Tables) : (s.changeTables T).tables = T := by
  obtain ⟨v, h, e⟩ := State.changeTables_eq s T
  rw [e]
  rfl

/-- A change of the tables changes of a lane its cue line (R110), and its hold-pending flag where an episode begins under a hold limit of 0
(R71). -/
theorem State.changeTables_lane (s : State) (T : Tables) (n : LaneNo) :
    (s.changeTables T).lanes[n] = Lane.heldBy (holdoverReport s.monitor.state T.site && !s.hold.episode && T.site.holdLimit == 0)
      (if T.cueLines[n].mode = s.tables.cueLines[n].mode then s.lanes[n]
       else { s.lanes[n] with cue := s.lanes[n].cue.modeChanged }) := by
  unfold State.changeTables
  rw [State.syncHold_lane]
  simp [State.holdover]

/-! ### Entries from their bytes -/

/-- A LANE entry that parses is the entry its bytes load, in range. -/
theorem LaneEntry.parse_some {l : List Byte} {e : LaneEntry} (h : LaneEntry.parse l = some e) : e = LaneEntry.load l ∧ e.inRange = true := by
  unfold LaneEntry.parse at h
  split at h
  · rename_i c
    cases h
    exact ⟨rfl, c.2.2.2.2⟩
  · cases h

/-- A list entry that parses is the entry its bytes load, in range. -/
theorem ListEntry.parse_some {l : List Byte} {e : ListEntry} (h : ListEntry.parse l = some e) : e = ListEntry.load 2 l ∧ e.inRange = true := by
  unfold ListEntry.parse at h
  split at h
  · rename_i c
    cases h
    exact ⟨rfl, c.2.2.2⟩
  · cases h

/-- A CUE LINE entry that parses is the entry its bytes load, in range. -/
theorem CueEntry.parse_some {l : List Byte} {e : CueEntry} (h : CueEntry.parse l = some e) : e = CueEntry.load l ∧ e.inRange = true := by
  unfold CueEntry.parse at h
  split at h
  · rename_i c
    cases h
    exact ⟨rfl, c.2.2.2.2.2.2.2.2⟩
  · cases h

/-- A SITE entry that parses is the entry its bytes load, in range. -/
theorem SiteEntry.parse_some {l : List Byte} {e : SiteEntry} (h : SiteEntry.parse l = some e) : e = SiteEntry.load l ∧ e.inRange = true := by
  unfold SiteEntry.parse at h
  split at h
  · rename_i c
    cases h
    exact ⟨rfl, c.2.2.2.2⟩
  · cases h

/-- Loading table `t` leaves the other tables. -/
theorem Tables.loadTable_eq (T : Tables) (t : Nat) (l : List Byte) : T.loadTable t l = T.copyTable (T.loadTable t l) t := by
  unfold Tables.loadTable
  split
  case h_9 h1 h2 h3 h4 h5 h6 h7 h8 =>
    unfold Tables.copyTable
    split <;> rfl
  all_goals rfl

end Sys2Proof.Machine
end

