-- ==== Sys2Proof/Laws/Orders.lean ====
section
/-! SUPPORT. The taking of an order and its answer: what a taken order runs, and what answering it does. -/

namespace Sys2Proof.Machine

/-- Whether the part is in listen-only does not depend on the clock. -/
@[simp] theorem State.listenOnly_clockAt (s : State) (t : Micros) : (s.clockAt t).listenOnly = s.listenOnly := by
  simp [State.listenOnly]

/-- The feed monitor's report does not depend on the clock. -/
@[simp] theorem State.holdover_clockAt (s : State) (t : Micros) : (s.clockAt t).holdover = s.holdover := by
  simp [State.holdover]

/-- Whether the preset controller is busy does not depend on the clock. -/
@[simp] theorem State.presetBusy_clockAt (s : State) (t : Micros) : (s.clockAt t).presetBusy = s.presetBusy := by
  simp [State.presetBusy]

end Sys2Proof.Machine

namespace Sys2Proof.Safety

open Machine

/-- An order that is taken stays so when time has reached its instant. -/
theorem Taken.clockAt {s : State} {o : OrderMsg} (h : Taken s o) (t : Micros) : Taken (s.clockAt t) o := by
  simpa [Taken] using h

/-- An order to the part's own address outside listen-only is not one to 255. -/
theorem Taken.addressed {s : State} {o : OrderMsg} (h : Taken s o) (h' : o.target ≠ 255) :
    o.target = s.siteAddress ∧ s.listenOnly = false ∧ s.answers.queue.length < 8 := by
  rcases h with h | h
  · exact absurd h h'
  · exact h

/-- A taken order runs at its instant, and is answered unless it is to 255. -/
theorem Taken.run {s : State} {o : OrderMsg} (h : Taken s o) (run : List Byte → Reply → State → State) :
    s.takeOrder o run = run o.args { tag := o.tag, answered := decide (o.target ≠ 255) } (s.clockAt o.time) := by
  unfold State.takeOrder State.recipient
  by_cases h' : o.target = 255
  · simp [h']
  · obtain ⟨h1, h2, -⟩ := h.addressed h'
    have h'' : ¬s.siteAddress = 255#8 := fun e => h' (h1.trans e)
    simp [h1, h2, h'']

/-- Answering a taken order. -/
theorem Taken.reply {s : State} {o : OrderMsg} (h : Taken s o) (x : Result) (d : List Byte) :
    s.reply { tag := o.tag, answered := decide (o.target ≠ 255) } x d = answered s o x d := by
  unfold State.reply answered
  by_cases h' : o.target = 255
  · simp [h']
  · obtain ⟨-, h2, h3⟩ := h.addressed h'
    simp [State.queueAnswer, h2, AnswerUnit.join, h3]

/-- An order that is not for the part changes nothing but the clock. -/
theorem takeOrder_none (s : State) (o : OrderMsg) (run : List Byte → Reply → State → State) (h : o.target ≠ 255)
    (h' : s.listenOnly = true ∨ o.target ≠ s.siteAddress) : s.takeOrder o run = s.clockAt o.time := by
  unfold State.takeOrder State.recipient
  simp only [h, if_false, State.listenOnly_clockAt, State.clockAt_siteAddress]
  rcases h' with e | e <;> simp [e]

/-- The end of a timed order, with its answer. -/
theorem CanEnd.reply {s : State} {r : Reply} (h : CanEnd s r) (x : Result) : s.reply r x [] = ended s r x := by
  unfold State.reply ended
  cases e : r.answered
  · simp
  · obtain ⟨h2, h3⟩ := h e
    simp [State.queueAnswer, h2, AnswerUnit.join, h3]

end Sys2Proof.Safety
end

