-- ==== Sys2Proof/WellFormed.lean ====
section
/-! DEFINITION. The commands that can come about: what the spec's formats allow in a command's operands. The meanings are total; on an operand that
these checks refuse they are defined all the same (assumption 10). -/

namespace Sys2Proof

/-- An order's body is at most 62 bytes, of which three lead (R133, R184). -/
def OrderMsg.wellFormed (o : OrderMsg) : Bool := decide (o.args.length ≤ 59)

/-- An order of the lanes names each once, or is left out. -/
def laneOrderOk (order : List LaneNo) : Bool := order.isEmpty || (order.length == 4 && decide order.Nodup)

/-- A cut write leaves at most the bytes of the longest record, T2's 515 (R188). -/
def writtenOk (written : Nat) : Bool := decide (written ≤ 515)

/-- A feed frame whose 551st byte can arrive, with at most one prompt for each record that the cues of a field can make: ten cues, four lanes
(R84, R130, R184). -/
def Arrival.wellFormed (a : Arrival) : Bool := a.frame.arrivable && decide (a.prompt.length ≤ 40) && writtenOk a.reset.written

/-- The command's operands are ones that the spec's formats allow. -/
def Instr.wellFormed : Instr → Bool
  | .hardReset env => writtenOk env.written
  | .restartDeadline env => writtenOk env.written
  | .syncPatternSeen _ => true
  | .feedFrameComplete arrival => arrival.wellFormed
  | .frameForward => true
  | .lostTimerExpiry => true
  | .recordArrives _ _ => true
  | .poll msg => msg.wellFormed
  | .readTable msg => msg.wellFormed
  | .writeTable msg => msg.wellFormed
  | .protectTables msg => msg.wellFormed
  | .unprotectTables msg => msg.wellFormed
  | .setProtectLock msg => msg.wellFormed
  | .clearProtectLock msg => msg.wellFormed
  | .freezeLane msg => msg.wellFormed
  | .laneOn msg => msg.wellFormed
  | .laneOff msg => msg.wellFormed
  | .startAir msg => msg.wellFormed
  | .stopAir msg => msg.wellFormed
  | .savePreset msg => msg.wellFormed
  | .loadPreset msg => msg.wellFormed
  | .readEvents msg => msg.wellFormed
  | .clearEvents msg => msg.wellFormed
  | .setAlertMask msg => msg.wellFormed
  | .setMarker msg => msg.wellFormed
  | .restart msg => msg.wellFormed
  | .presetAccessTimeout _ written => writtenOk written
  | .startUpTablePlaced _ => true
  | .freezeRecordRead _ => true
  | .startUpLoadEnd _ _ => true
  | .saveRecordWritten _ => true
  | .loadPresetStepDone _ => true
  | .freezeWriteComplete _ _ written => writtenOk written
  | .earlyBuild order => laneOrderOk order
  | .lineStart fire order => fire.all (fun k => decide (k ≤ 4)) && laneOrderOk order
  | .ceilingEnd _ => true
  | .holdFires => true
  | .finalFrameEnd => true
  | .syncPulse _ => true
  | .syncPulseMissed => true
  | .syncLost => true
  | .masterPulseStart => true
  | .masterPulseEnd => true
  | .triggerArrives _ => true
  | .triggerDue _ => true
  | .phaseEnd _ => true
  | .guardLineChange _ _ => true

end Sys2Proof
end

