-- ==== Sys2Proof/Tests/Slice0.lean ====
section
/-! SUPPORT. Tests: the ill-formed commands that WellFormed refuses, single steps against the worked examples of spec/ and values worked out by hand
from its formats, and a witness for the hypotheses of each statement. -/

namespace Sys2Proof.Tests

open Machine Safety

set_option Elab.async false
set_option maxRecDepth 8000

/-! ### Helpers -/

/-- The part after a command. -/
def after (c : Instr) (s : State) : State :=
  match exec c s with
  | .next t => t
  | .fault _ => s
  | .refused _ => s

/-- A step has a next state. -/
def steps (s : State) : Bool :=
  match step s with
  | .next _ => true
  | .fault _ => false
  | .refused _ => false

/-- What a reset finds outside, in most tests. -/
def env : ResetEnv := { address := 37, source := .preset, written := 0 }

/-- Site 37 after a start-up that has ended, with no frame awaited. -/
def site : State :=
  { State.reset with
    siteAddress := 37
    monitor := { State.reset.monitor with state := .good, lostAt := none }
    hold := { episode := false, count := 0, fired := false, due := false }
    protect := { flags := 0, lock := false }
    preset := { op := .idle, condition := .answering, t7Placed := true } }

/-- An order to site 37, with tag 9. -/
def order (args : List Byte) : OrderMsg := { time := 1000, target := 37, tag := 9, args := args }

/-- The same order to 255. -/
def orderAll (args : List Byte) : OrderMsg := { time := 1000, target := 255, tag := 9, args := args }

/-- An answer without data. -/
def answer (tag : Byte) (x : Result) : Answer := { tag := tag, result := x, data := [], ofRestart := false }

/-- The results queued. -/
def results (s : State) : List Result := s.answers.queue.map Answer.result

/-- A good feed frame with number `n` and the bytes `l` at the start of its field. -/
def feedFrame (n : FeedNo) (l : List Byte) : FeedFrame :=
  let word : Half := 1#4 ++ n
  let anc := l ++ List.replicate (64 - l.length) 0
  { word := word, audio := List.replicate 480 0, anc := anc, check := crc16 (be16 word ++ anc) }

/-- The completion of a frame, every record taken at once, the outcome first. -/
def arrival (t : Micros) (f : FeedFrame) : Arrival :=
  { time := t, frame := f, prompt := List.replicate 40 true, outcomeAt := .beforeParse, deadlineFirst := false, reset := env }

/-- The part with a frame in progress since `t`. -/
def State.receiving (s : State) (t : Micros) : State := s.putFeed { s.feed with inProgress := some t }

/-- A lane ON_AIR with REGULAR alone. -/
def onAirLane (lastBuilt : AirNo) : Lane :=
  { Lane.reset with
    mode := .onAir, onLine := some ⟨lastBuilt - 1, 0, 0, 0, 0⟩, inBuild := some ⟨lastBuilt, 0, 0, 0, 0⟩, stack := [Level.regular]
    lastBuilt := lastBuilt }

/-- A BULLETIN level entered at frame `k`. -/
def bulletinLevel (k : AirNo) : Level := { kind := .bulletin, cursor := Cursor.start, life := some { entryFrame := k, ceiling := 469 } }

/-- An URGENT level entered at frame `k`, with a ceiling of 2 cycles. -/
def urgentLevel (k : AirNo) : Level := { kind := .urgent, cursor := Cursor.start, life := some { entryFrame := k, ceiling := 2 } }

/-- A running timebase with frame `k` on the line from `start` and the next frame built. -/
def running (k : AirNo) (start : Micros) : Timebase :=
  { Timebase.reset with
    mode := .running
    counts := some { number := k + 2, position := (k + 2).setWidth 3, cycle := 5 }
    reference := some { number := k, start := start }
    onLine := some { number := k, position := k.setWidth 3, start := start, cycle := 4 }
    built := some { number := k + 1, position := (k + 1).setWidth 3, start := start + 80000, cycle := 4 } }

/-- A LANE entry for site tests. -/
def laneEntry (da dd : Nat) : LaneEntry :=
  { LaneEntry.default with station := 0x5A32, zone := 3, traffic := true, da := da, dd := dd, lead := 300, trail := 400 }

/-- The site of the worked alignment (05, WORKED ALIGNMENT): lanes 0 to 2 ON_AIR, frame 40 on the line from 3,200,000. -/
def alignSite : State :=
  { site with
    clock := 3250000
    tables := { Tables.default with lane := #v[laneEntry 1200 150, laneEntry 900 100, laneEntry 0 150, laneEntry 0 0] }
    lanes := #v[onAirLane 41, onAirLane 41, onAirLane 41, { Lane.reset with mode := .waiting }]
    timebase := running 40 3200000 }

/-- A site part of role `r` with divisor 2 and offsets 40, lane 0 WAITING (07, A MASTER AND A FOLLOWER AT ONE SITE). -/
def syncSite (r : Role) : State :=
  { site with
    tables := { Tables.default with
      lane := Tables.default.lane.set 0 (laneEntry 0 0)
      site := { SiteEntry.default with role := r, divisor := 2, outOffset := 40, inOffset := 40 } }
    lanes := State.reset.lanes.set 0 { Lane.reset with mode := .waiting } }

/-! ### WellFormed: an ill-formed term for each check -/

theorem test_refuses_long_order : (Instr.poll (order (List.replicate 60 0))).wellFormed = false := by decide
theorem test_admits_longest_order : (Instr.writeTable (order (List.replicate 59 0))).wellFormed = true := by decide
theorem test_refuses_long_cut : (Instr.hardReset { env with written := 516 }).wellFormed = false := by decide
theorem test_refuses_long_cut_timeout : (Instr.presetAccessTimeout 0 516).wellFormed = false := by decide
theorem test_refuses_lane_twice : (Instr.lineStart none [0, 1, 2, 2]).wellFormed = false := by decide
theorem test_refuses_lane_missing : (Instr.earlyBuild [0, 1, 2]).wellFormed = false := by decide
theorem test_refuses_late_firing : (Instr.lineStart (some 5) []).wellFormed = false := by decide
theorem test_refuses_short_audio :
    (Instr.feedFrameComplete (arrival 0 { feedFrame 5 [] with audio := List.replicate 479 0 })).wellFormed = false := by decide +kernel
theorem test_refuses_short_field :
    (Instr.feedFrameComplete (arrival 0 { feedFrame 5 [] with anc := List.replicate 63 0 })).wellFormed = false := by decide +kernel
theorem test_refuses_pattern_inside :
    (Instr.feedFrameComplete (arrival 0 (feedFrame 5 [0xB4, 0x2E, 0x71]))).wellFormed = false := by decide +kernel
theorem test_refuses_many_prompts :
    (Instr.feedFrameComplete { arrival 0 (feedFrame 5 []) with prompt := List.replicate 41 true }).wellFormed = false := by decide +kernel
theorem test_admits_frame : (Instr.feedFrameComplete (arrival 0 (feedFrame 5 []))).wellFormed = true := by decide +kernel

/-- No row of the opcode table has bits. -/
theorem test_no_word_decodes : decodeTableWord 16 0xFFFF = none := rfl

/-! ### Formats (12_formats.md), values worked out by hand -/

/-- R191: the check of the nine characters 1 to 9 is the one that this code (x^16 + x^12 + x^5 + 1, preset to ones) is known by. -/
theorem test_crc16_known_value : crc16 [0x31, 0x32, 0x33, 0x34, 0x35, 0x36, 0x37, 0x38, 0x39] = 0x29B1 := by decide +kernel

/-- R189: kind TITLE, T 1, B 1, U 0, zone 3, position 6, segment 1, version 1, count 3 is 0011 1 1 0 0011 110 0001 01 0011. -/
theorem test_header_word :
    ({ kind := .title, t := true, b := true, u := false, zone := 3, position := 6, segment := 1, version := 1, count := 3 } :
      Header).data = 0b001111000111100001010011#24 := by decide +kernel

/-- R189: the HEAD payload, station code first, sequence number last. -/
theorem test_head_payload : headPayload 0x5A31 4 1 0x5A32 7 = 0x5A31000400015A3207#72 := by decide +kernel

/-- R187: a SITE entry FOLLOWER, divisor 2, offsets 40 and 1023, autostart, thresholds 10 and 2, holdover on degraded, limit 16. -/
theorem test_site_bytes :
    SiteEntry.parse [2, 2, 0, 40, 3, 255, 1, 10, 2, 1, 16] =
      some { role := .follower, divisor := 2, outOffset := 40, inOffset := 1023, autostart := true, highThreshold := 10, lowThreshold := 2,
             holdoverOnDegraded := true, holdLimit := 16 } := by decide +kernel

/-- R155, R142: a low threshold equal to the high one is out of range. -/
theorem test_site_thresholds : SiteEntry.parse [0, 1, 0, 0, 0, 0, 0, 10, 10, 0, 16] = none := by decide +kernel

/-- R44: the place beyond the count reads back as 0 (03, NEIGHBOUR LISTS: count 11, twelfth place 412). -/
theorem test_neighbour_beyond_count :
    (NeighbourEntry.parse ([11] ++ (List.replicate 11 [0, 7]).flatten ++ [0x01, 0x9C] ++ List.replicate 24 0)).map NeighbourEntry.codes =
      some (List.replicate 11 7 ++ List.replicate 13 0) := by decide +kernel

/-- R186: FEED GOOD, RUNNING, busy no, lanes 0 to 2 ON_AIR with REGULAR: 01 011 0 0 0, 0111 0 0 00, 00 01 01 01. -/
theorem test_summary :
    (alignSite.summary1, alignSite.summary2, alignSite.summary3) = (0b01011000#8, 0b01110000#8, 0b00010101#8) := by decide +kernel

/-! ### Resets and the start-up load -/

theorem test_hard_reset_reads_straps : (after (.hardReset { env with address := 52 }) alignSite).siteAddress = 52 := by decide +kernel

/-- R164, R176: the restart keeps the clock and the feed, and clears the lanes. -/
theorem test_restart_keeps_feed :
    let t := after (.restartDeadline env) { (State.receiving alignSite 7) with answers := { AnswerUnit.reset with restartAt := some 4000000 } }
    t.clock = 4000000 ∧ t.feed.inProgress = some 7 ∧ t.lanes[0].mode = .off := by decide +kernel

/-- R177: from a memory never written the load takes defaults with every flag set and PRESET_FAULT. -/
theorem test_start_up_erased :
    let t := after (.startUpTablePlaced 1) State.reset
    t.latched .presetFault = true ∧
      t.preset.op = .startUp { next := 1, image := some false, defaulted := 1 } := by decide +kernel

/-- R172: a freeze record read at start-up freezes its lane (10, COMMISSIONING A SITE: lane 1, 0x5A32, zone 4). -/
theorem test_freeze_record_read :
    let s := { State.reset with
      memory := { PresetMemory.erased with freeze := PresetMemory.erased.freeze.set 1 (sealRecord [1, 0x5A, 0x32, 4]) }
      preset := { State.reset.preset with op := .startUp { next := 10, image := some false, defaulted := 0xFF } } }
    (after (.freezeRecordRead 1) s).frozen[1] = some { station := 0x5A32, zone := 4 } := by decide +kernel

/-- R178: the autostart of a valid image: START AIR and the lanes that are on at start. -/
theorem test_autostart :
    let s := { site with
      tables := { Tables.default with
        lane := Tables.default.lane.set 1 { laneEntry 0 0 with onAtStart := true }, site := { SiteEntry.default with autostart := true } }
      preset := { site.preset with op := .startUp { next := 13, image := some true, defaulted := 0 } } }
    let t := after (.startUpLoadEnd 1 true) s
    t.timebase.mode = .running ∧ t.lanes[1].mode = .waiting ∧ t.lanes[0].mode = .off := by decide +kernel

/-! ### Orders -/

theorem test_poll_done : (after (.poll (order [])) site).answers.queue = [answer 9 .done] := by decide +kernel
theorem test_poll_with_argument : results (after (.poll (order [0])) site) = [.malformed] := by decide +kernel

/-- 09, A LARGE ANSWER: READ TABLE T9, first entry 3, count 2 returns one entry of 47 bytes. -/
theorem test_read_title :
    (after (.readTable (order [9, 3, 2])) site).answers.queue.map Answer.data = [[9, 3, 1, 0, 0] ++ List.replicate 45 0x20] := by
  decide +kernel

/-- Site 37 of 10, COMMISSIONING A SITE: lane 1 frozen with 0x5A32 and zone 4. -/
def frozenSite : State :=
  { site with
    tables := { Tables.default with lane := Tables.default.lane.set 1 { laneEntry 0 0 with zone := 4 } }
    frozen := State.reset.frozen.set 1 (some { station := 0x5A32, zone := 4 }) }

/-- Steps 6 and 7: another zone is refused FROZEN; another Da with zone 4 is taken. -/
theorem test_write_frozen :
    results (after (.writeTable (order ([1, 1, 1] ++ { laneEntry 0 0 with zone := 5 }.bytes))) frozenSite) = [.frozen] ∧
    (after (.writeTable (order ([1, 1, 1] ++ { laneEntry 1200 0 with zone := 4 }.bytes))) frozenSite).tables.lane[1].da = 1200 := by
  decide +kernel

/-- Step 12: the PROTECTED check comes first. -/
theorem test_write_protected :
    results (after (.writeTable (order ([1, 1, 1] ++ { laneEntry 0 0 with zone := 5 }.bytes)))
      (frozenSite.putProtect { flags := 0xFF, lock := true })) = [.isProtected] := by decide +kernel

/-- Step 8: SET PROTECT LOCK with protect-all-first yes. -/
theorem test_set_lock_all : (after (.setProtectLock (order [1])) frozenSite).protect = { flags := 0xFF, lock := true } := by decide +kernel

/-- Steps 10 and 11: under the lock with GUARD active both are refused LOCKED. -/
theorem test_locked :
    let s := (frozenSite.putProtect { flags := 0xFF, lock := true }).putGuard true
    results (after (.unprotectTables (order [0, 0x20])) s) = [.locked] ∧ results (after (.clearProtectLock (order [])) s) = [.locked] := by
  decide +kernel

/-- R166: PROTECT TABLES of T5 and T8 sets their flags alone; a set that names T9 is refused. -/
theorem test_protect_tables :
    (after (.protectTables (order [1, 0x20])) site).protect.flags = 0b10010000 ∧
    results (after (.protectTables (order [2, 0])) site) = [.range] := by decide +kernel

theorem test_guard : (after (.guardLineChange 5 true) site).guard = true := by decide +kernel

/-- Steps 2 and 3: a wrong confirmation is refused MISMATCH; the right one begins FREEZING. -/
theorem test_freeze_lane :
    let s := { frozenSite with frozen := State.reset.frozen }
    results (after (.freezeLane (order [1, 0x5A, 0x31])) s) = [.mismatch] ∧
    (after (.freezeLane (order [1, 0x5A, 0x32])) s).preset.op =
      .freezing { lane := 1, station := 0x5A32, zone := 4, reply := { tag := 9, answered := true } } := by decide +kernel

/-- Step 5: the freeze write completes. -/
theorem test_freeze_write :
    let s := (after (.freezeLane (order [1, 0x5A, 0x32])) { frozenSite with frozen := State.reset.frozen })
    let t := after (.freezeWriteComplete 51000 true 0) s
    results t = [.done] ∧ t.frozen[1] = some { station := 0x5A32, zone := 4 } := by decide +kernel

/-- R11, R154: a lane whose station code is 0 makes LANE ON UNSET; a set that names a fifth lane is out of range. -/
theorem test_lane_on :
    results (after (.laneOn (order [1])) site) = [.unset] ∧ results (after (.laneOn (order [16])) site) = [.range] ∧
    (after (.laneOn (order [1])) alignSite).lanes[0].mode = .onAir := by decide +kernel

/-- 01, A LANE THROUGH START, step 5: LANE OFF on air waits for the frame's end. -/
theorem test_lane_off :
    (after (.laneOff (order [4])) alignSite).lanes[2].stop = .toOff ∧
    results (after (.laneOff (order [1])) (alignSite.modLane 0 (fun l => { l with stack := [Level.regular, urgentLevel 30] }))) =
      [.urgentActive] := by decide +kernel

/-- 07, THE MASTER'S PULSES: START AIR at 2,000,000 builds frame 0 for 2,080,000. -/
theorem test_start_air :
    let t := after (.startAir { order [] with time := 2000000 }) (syncSite .master)
    t.timebase.built = some { number := 0, position := 0, start := 2080000, cycle := 0 } ∧ t.lanes[0].inBuild.isSome = true := by
  decide +kernel

theorem test_stop_air :
    let t := after (.stopAir (order [])) alignSite
    t.timebase.stopPending = true ∧ t.timebase.built = none ∧ t.lanes[1].stop = .toWaiting := by decide +kernel

/-- R180: SAVE PRESET puts the INVALID header first; its answer waits for the end. -/
theorem test_save_preset :
    let t := after (.saveRecordWritten 2000) (after (.savePreset (order [])) site)
    byteAt t.memory.header 0 = 0 ∧ results t = [] ∧
      t.preset.op = .saving { next := 1, reply := { tag := 9, answered := true } } := by decide +kernel

/-- R181: LOAD PRESET is refused ON_AIR while the timebase runs; a header not valid ends it NO_PRESET. -/
theorem test_load_preset :
    results (after (.loadPreset (order [])) alignSite) = [.onAir] ∧
    results (after (.loadPresetStepDone 2000) (after (.loadPreset (order [])) site)) = [.noPreset] := by decide +kernel

/-- R175, R180: no response to a SAVE makes the memory SILENT. -/
theorem test_preset_timeout :
    let t := after (.presetAccessTimeout 2000 0) (after (.savePreset (order [])) site)
    t.preset.condition = .silent ∧ results t = [.noPreset] := by decide +kernel

/-- 09, A LARGE ANSWER, frame 1012: READ EVENTS shows both latches and the mask; CLEAR EVENTS clears them and the lost count. -/
def eventSite : State :=
  site.putAnswers { AnswerUnit.reset with latches := 0x840, mask := 0x40, lost := 2 }

theorem test_read_events :
    (after (.readEvents (order [])) eventSite).answers.queue.map Answer.data = [[0x08, 0x40, 0x00, 0x40]] := by decide +kernel
theorem test_clear_events :
    let t := after (.clearEvents (order [0x08, 0x40])) eventSite
    t.answers.latches = 0 ∧ t.answers.lost = 0 := by decide +kernel
theorem test_set_alert_mask :
    (after (.setAlertMask (order [0x00, 0x40])) site).answers.mask = 0x40 ∧
    results (after (.setAlertMask (order [0x20, 0x00])) site) = [.range] := by decide +kernel
theorem test_set_marker : (after (.setMarker (orderAll [])) site).answers.marker = true := by decide +kernel
theorem test_restart_order : (after (.restart (order [])) site).answers.restartAt = some 201000 := by decide +kernel

/-! ### Feed -/

/-- The answer queue of 08, ONE FRAME THROUGH THE PORT. -/
def portSite : State :=
  State.receiving
    (site.putAnswers { AnswerUnit.reset with
      queue := [answer 1 .done, { tag := 2, result := .done, data := List.replicate 20 0xEE, ofRestart := false }] }) 900000

/-- The field of that example: CUE, ORDER to 37 (tag 9, POLL), TITLE of 12 characters, ANSWER from site 52, terminator, upstream bytes. -/
def portField : List Byte :=
  [1, 6, 17, 1, 0, 8, 0, 5] ++ [3, 3, 37, 9, 1] ++ ([2, 15, 0, 8, 12] ++ List.replicate 12 0x41) ++
    ([4, 11, 52] ++ List.replicate 10 0xCC) ++ [0] ++ List.replicate 20 0xDD

/-- The frame that goes out, and the answers that wait. -/
theorem test_one_frame_through_the_port :
    let t := after (.feedFrameComplete (arrival 918000 (feedFrame 2210 portField))) portSite
    t.feed.forwards.map (fun f => (f.start, f.frame.anc)) =
      [(918250, [1, 6, 17, 1, 0, 8, 0, 5] ++ ([2, 15, 0, 8, 12] ++ List.replicate 12 0x41) ++ ([4, 11, 52] ++ List.replicate 10 0xCC) ++
        [4, 7, 37, 1, 0, 0x40, 0, 0, 0] ++ List.replicate 17 0)] ∧
    t.answers.queue.map Answer.tag = [2, 9] ∧ t.recentCues = [17] := by decide +kernel

/-- An unknown kind where site 52's answer stood: the parse stops there and no answer goes in. -/
theorem test_unknown_kind_stops :
    let t := after (.feedFrameComplete (arrival 918000 (feedFrame 2210 (portField.set 30 9)))) portSite
    t.answers.queue.map Answer.tag = [1, 2, 9] ∧ (t.feed.forwards.map (fun f => f.frame.anc.drop 38)) =
      [[0] ++ List.replicate 20 0xDD ++ List.replicate 5 0] := by decide +kernel

/-- 08, A FEED FAILURE AND RETURN, step 2: a pattern in the payload truncates the frame. -/
theorem test_truncation :
    let t := after (.syncPatternSeen 50012000) (State.receiving site 50000000)
    t.monitor.bad = 1 ∧ t.feed.inProgress = some 50012000 ∧ t.monitor.lostAt = some 50112000 := by decide +kernel

/-- Step 3: the LOST timer expires; the frame is abandoned. -/
theorem test_feed_lost :
    let t := after .lostTimerExpiry { (State.receiving site 50012000) with monitor := { site.monitor with lostAt := some 50112000 } }
    t.monitor.state = .lost ∧ t.monitor.bad = 1 ∧ t.latched .feedLost = true ∧ t.hold.episode = true := by decide +kernel

/-- R132: the frame begins on FEED OUT 250 µs after its completion. -/
theorem test_forward :
    let t := after .frameForward (after (.feedFrameComplete (arrival 918000 (feedFrame 5 []))) (State.receiving site 900000))
    t.clock = 918250 ∧ t.feed.forwards = [] ∧ t.feed.sending.map Forward.start = some 918250 := by decide +kernel

/-! ### Cues and transitions -/

/-- 05, THE START: cue 17 in feed frame 4090 with F = 5 gives targets 52, 49 and, late, 42, with their audio times. -/
theorem test_start_targets :
    let t := after (.feedFrameComplete (arrival 3268000 (feedFrame 4090 [1, 6, 17, 1, 0, 8, 0, 5]))) (State.receiving alignSite 3250000)
    t.lanes[0].schedule = [⟨.bulletinStart, 52, 4670000, false⟩] ∧ t.lanes[1].schedule = [⟨.bulletinStart, 49, 4370000, false⟩] ∧
    t.lanes[2].schedule = [⟨.bulletinStart, 42, 3470000, true⟩] ∧ t.lanes[3].schedule = [] ∧ t.latched .cueLate = true := by
  decide +kernel

/-- 05, THE END: lane 0 with BULLETIN entered at 52, F = 1200, t_F 27,370,000, reference (337, 26,960,000) gives 361. -/
theorem test_end_target :
    (alignRecord (laneEntry 1200 150) { onAirLane 338 with stack := [Level.regular, bulletinLevel 52] } ⟨337, 26960000⟩ .bulletinEnd
      { number := 18, kind := some .bulletinEnd, mask := 8, effective := 1200, carrier := 1180, syncTime := 26970000 }).target = 361 := by
  decide +kernel

/-- 05, A BULLETIN CANCELLED AT ONCE: lane 2's END is raised to 8 frames after its START. -/
theorem test_cancel_raised :
    (alignRecord (laneEntry 0 150) { onAirLane 42 with stack := [Level.regular, bulletinLevel 42] } ⟨41, 3280000⟩ .bulletinEnd
      { number := 19, kind := some .bulletinEnd, mask := 8, effective := 4092, carrier := 4092, syncTime := 3290000 }).target = 50 := by
  decide +kernel

/-- 04, AN URGENT BULLETIN INSIDE AN ORDINARY ONE, step 7 at frame 175: BULLETIN enters beneath URGENT; step 9 at 190: URGENT leaves and U falls,
with the record's audio time. -/
theorem test_bulletin_beneath_urgent :
    let s := { alignSite with
      lanes := alignSite.lanes.set 0 { onAirLane 174 with
        stack := [Level.regular, { urgentLevel 150 with life := some ⟨150, 188⟩ }], prevB := true, prevU := true, sequence := 7
        schedule := [⟨.bulletinStart, 175, 15490000, false⟩] }
      timebase := running 173 14840000 }
    let l := (after (.lineStart none []) s).lanes[0]
    l.stack.map Level.kind = [.regular, .bulletin, .urgent] ∧ l.sequence = 8 ∧ l.triggers = [] := by decide +kernel

theorem test_urgent_leaves :
    let s := { alignSite with
      lanes := alignSite.lanes.set 0 { onAirLane 189 with
        stack := [Level.regular, bulletinLevel 175, { urgentLevel 150 with life := some ⟨150, 188⟩ }], prevB := true, prevU := true
        schedule := [⟨.urgentEnd, 190, 15920000, false⟩] }
      timebase := running 188 16040000 }
    let l := (after (.lineStart none []) s).lanes[0]
    l.stack.map Level.kind = [.regular, .bulletin] ∧ l.triggers = [⟨.uDown, 16200000, some 15920000⟩] := by decide +kernel

/-- 04, step 12: an END that finds no level is stray. -/
theorem test_stray_end :
    let s := alignSite.modLane 0 (fun l => { l with schedule := [⟨.bulletinEnd, 42, 0, false⟩] })
    (after (.lineStart none []) s).latched .strayEnd = true := by decide +kernel

/-- 04, A BULLETIN ENDED BY CEILING: an URGENT level entered at 400 with ceiling 2 stays at age 15 and goes at age 16. -/
theorem test_ceiling :
    let s := fun k : AirNo => alignSite.modLane 1 (fun _ => { onAirLane k with stack := [Level.regular, urgentLevel 400] })
    (after (.ceilingEnd 1) (s 415)).lanes[1].stack.length = 2 ∧ (after (.ceilingEnd 1) (s 416)).lanes[1].stack.length = 1 := by
  decide +kernel

/-- 04, step 6: the firing sets hold-pending on the lanes ON_AIR. -/
theorem test_hold_fires :
    let t := after .holdFires (alignSite.putHold { episode := true, count := 16, fired := false, due := true })
    t.hold.fired = true ∧ t.lanes[0].holdPending = true ∧ t.lanes[3].holdPending = false := by decide +kernel

/-- R61: a record at or before the last built frame is raised to the next. -/
theorem test_record_late :
    let s := alignSite.modLane 0 (fun l => { l with records := [⟨.bulletinStart, 41, 5, false⟩] })
    (after (.recordArrives 0 0) s).lanes[0].schedule = [⟨.bulletinStart, 42, 5, true⟩] := by decide +kernel

/-! ### Titles -/

/-- 03, A TITLE CHANGE, step 1: code 0x09 is stored as 0x20 and the version goes from 2 to 3; lane 0 asks for the title. -/
theorem test_title :
    let s := State.receiving
      { alignSite with titles := alignSite.titles.set 3 { length := 30, text := List.replicate 45 0x41, version := 2 } } 3250000
    let t := after (.feedFrameComplete (arrival 3268000 (feedFrame 700 ([2, 7, 0, 0x28, 4, 0x44, 0x09, 0x57, 0x20])))) s
    t.titles[3].length = 4 ∧ t.titles[3].text.take 5 = [0x44, 0x20, 0x57, 0x20, 0x20] ∧ t.titles[3].version = 3 ∧
      t.titles[5].version = 1 ∧ t.lanes[0].queue = [3] := by decide +kernel

/-! ### Cue lines (06, A REPEATED CUE) -/

/-- The T7 entry of that example. -/
def repeatEntry : CueEntry :=
  { mode := .repeating, urgentOnly := false, edge := .start, fromAudio := true, delay := 20, high := 100, low := 60, pulses := 2,
    truncate := true, activeLow := false, force := .normal }

/-- Lane 0 with that entry. -/
def repeatSite : State := { alignSite with tables := { alignSite.tables with cueLines := Tables.default.cueLines.set 0 repeatEntry } }

/-- Step 1: the B up of frame 52 is due at 4,770,000. -/
theorem test_trigger_arrives :
    let s := (repeatSite.putClock 4080000).modLane 0 (fun l => { l with triggers := [⟨.bUp, 4160000, some 4670000⟩] })
    (after (.triggerArrives 0) s).lanes[0].cue.queue = [⟨.bUp, 4770000⟩] := by decide +kernel

/-- Step 3: it starts a train, HIGH to 5,270,000. -/
theorem test_trigger_due :
    let s := repeatSite.modLane 0 (fun l => { l with cue := { CueLine.cleared with queue := [⟨.bUp, 4770000⟩] } })
    let c := (after (.triggerDue 0) s).lanes[0].cue
    c.train = .high ∧ c.phaseEnd = some 5270000 ∧ c.remaining = 2 ∧ c.followed = true := by decide +kernel

/-- Step 5: the first pulse ends, LOW to 5,570,000. -/
theorem test_phase_end :
    let s := repeatSite.modLane 0 (fun l => { l with
      cue := { CueLine.cleared with train := .high, phaseEnd := some 5270000, remaining := 2, widths := some (100, 60), followed := true } })
    let c := (after (.phaseEnd 0) s).lanes[0].cue
    c.train = .low ∧ c.phaseEnd = some 5570000 ∧ c.remaining = 1 := by decide +kernel

/-- 06, R108: a second down edge under TRUNCATE cuts a train with a closing train pending; one closing train follows, at once. -/
theorem test_one_closing_train :
    let e := { repeatEntry with edge := .both }
    let c := { CueLine.cleared with train := .low, phaseEnd := some 9000000, remaining := 1, widths := some (100, 60), closing := true }
    let d := c.repeatEdge e false 8800000
    (d.train, d.phaseEnd, d.remaining, d.closing) = (.high, some 9300000, 2, false) := by decide +kernel

/-- Step 9: at the cycle start of frame 80 an idle line whose level is up starts the next train, HIGH to 6,900,000. -/
theorem test_repeat_at_cycle_start :
    let s := { (repeatSite.modLane 0 (fun l => { l with cue := { CueLine.cleared with followed := true } })) with
      timebase := running 79 6320000 }
    (after (.lineStart none []) s).lanes[0].cue.phaseEnd = some 6900000 := by decide +kernel

/-! ### Timebase (07, A MASTER AND A FOLLOWER AT ONE SITE) -/

/-- The master's cycle start at 2,080,000 schedules a pulse 25,000 µs later. -/
theorem test_master_cycle_start :
    let s := after (.startAir { order [] with time := 2000000 }) (syncSite .master)
    (after (.lineStart none []) s).sync.pulseAt = some 2105000 ∧
    (after (.lineStart none []) s).lanes[0].mode = .onAir := by decide +kernel

theorem test_master_pulse :
    let t := after .masterPulseStart ((syncSite .master).putSync { pulseAt := some 2105000, lowUntil := none })
    t.sync.lowUntil = some 2105625 ∧ (after .masterPulseEnd t).sync.lowUntil = none := by decide +kernel

/-- Step 3: the pulse at 6,605,600 gives c0 = 7,220,600 and the next pulse at 7,885,600. -/
theorem test_follower_runs :
    let s := (syncSite .follower).putTimebase { Timebase.reset with mode := .priming, expected := some 6605000 }
    let t := after (.syncPulse 6605600) s
    t.timebase.mode = .running ∧ t.timebase.earlyFor = some 7220600 ∧ t.timebase.expected = some 7885600 := by decide +kernel

/-- Step 4: the early build of frame 0 at 7,140,600. -/
theorem test_early_build :
    let s := (syncSite .follower).putTimebase { Timebase.reset with mode := .running, earlyFor := some 7220600, expected := some 7885600 }
    let t := after (.earlyBuild []) s
    t.clock = 7140600 ∧ t.timebase.built.map LineFrame.number = some 0 ∧ t.lanes[0].inBuild.isSome = true := by decide +kernel

/-- Step 8: the slip. -/
theorem test_slip :
    let s := (syncSite .follower).putTimebase { running 24 9140600 with expected := some 9165600 }
    let t := after (.syncPulse 9190000) s
    t.latched .syncSlip = true ∧ t.timebase.earlyFor = some 9805000 ∧ t.timebase.expected = some 10470000 ∧ t.timebase.built = none := by
  decide +kernel

/-- Step 9: the final frame end of frame 24. -/
theorem test_final_frame_end :
    let s := (syncSite .follower).putTimebase { running 24 9140600 with built := none, lastOfGrid := true, earlyFor := some 9805000 }
    let t := after .finalFrameEnd s
    t.clock = 9220600 ∧ t.timebase.onLine = none ∧ t.timebase.reference = some ⟨24, 9140600⟩ := by decide +kernel

/-- Steps 12 and 14: a miss, and the third one. -/
theorem test_missed :
    let s := (syncSite .follower).putTimebase { running 66 13005000 with expected := some 13030000, misses := 2 }
    let t := after .syncPulseMissed s
    t.clock = 13031251 ∧ t.timebase.misses = 3 ∧ (after .syncLost t).timebase.mode = .holdover ∧
      (after .syncLost t).latched .syncLost = true := by decide +kernel

/-! ### Witnesses: a state and operands that meet the hypotheses of a statement, clause by clause, at boundary values where there are any -/

/-- Seven answers queued: room for one more. -/
def nearlyFull : State := site.putAnswers { AnswerUnit.reset with queue := List.replicate 7 (answer 1 .done) }

/-- A full answer queue, a lost count at its end, and every latch of a full mask open. -/
def fullQueue : State :=
  site.putAnswers { AnswerUnit.reset with queue := List.replicate 8 (answer 1 .done), lost := 255, mask := 0x1FFF }

/-- A part in listen-only. -/
def listening : State := { site with siteAddress := 255 }

/-- An order is taken with room for one answer, and by a part with none when it goes to 255. -/
theorem witness_taken :
    Taken nearlyFull (order []) ∧ Taken fullQueue (orderAll []) ∧ Taken listening (orderAll []) := by unfold Taken; decide +kernel

theorem witness_StepRunsCommand :
    (site.putPending [.holdFires, .syncLost]).pending = [.holdFires, .syncLost] ∧
    (State.reset.pending = [] ∧ State.reset.timed = [{ time := 100000, command := .lostTimerExpiry }]) ∧
    (site.pending = [] ∧ site.timed = []) := by decide +kernel

/-- Two steps in store of which one is soonest; and three set so far apart on the wrapping clock that none is. -/
theorem witness_StepRunsCommand_soonest :
    let s := (syncSite .master).putSync { pulseAt := some 2105000, lowUntil := some 2000625 }
    let u := { (s.putSync { pulseAt := some 0, lowUntil := some 0x60000000 }) with
      monitor := { site.monitor with lostAt := some 0xC0000000 } }
    (s.pending = [] ∧ s.timed.map Timed.time = [2105000, 2000625] ∧
      s.timed.all (fun y => atOrBefore (2000625 : Micros) y.time) = true) ∧
    (u.pending = [] ∧ u.timed.map Timed.time = [0, 0x60000000, 0xC0000000] ∧
      u.timed.all (fun x => u.timed.any (fun y => !atOrBefore x.time y.time)) = true) := by decide +kernel

theorem witness_HardResetResult :
    site.preset.op = .idle ∧
    (let v : Saving := { next := 10, reply := { tag := 9, answered := true } }
      let s := { (site.putOp (.saving v)) with memory := { PresetMemory.erased with header := sealRecord [0x00] } }
      s.preset.op = .saving v ∧ v.next ≤ 10 ∧ s.memory.header = sealRecord [0x00]) := by decide +kernel

/-- R182: a reset that cuts the record of T3 after four bytes leaves every other place. -/
theorem test_reset_cuts_one_place :
    let s := site.putOp (.saving { next := 3, reply := { tag := 9, answered := true } })
    let m := (after (.hardReset { env with written := 4 }) s).memory
    m = { PresetMemory.erased with tables := PresetMemory.erased.tables.set 2 ((s.tableRecord 3).take 4 ++ List.replicate 127 0xFF) } := by
  decide +kernel

theorem witness_RestartResult :
    (site.putAnswers { AnswerUnit.reset with restartAt := some 201000 }).answers.restartAt = some 201000 := by decide +kernel

theorem witness_PollResult :
    (order []).args = [] ∧ Taken nearlyFull (order []) ∧ (orderAll []).args = [] ∧ (orderAll []).target = 255 := by
  unfold Taken; decide +kernel

/-- The last LANE entry, the last title, and the last entry of T2. -/
theorem witness_ReadTableResult :
    (order [1, 3, 1]).args = [1, 3, 1] ∧ Taken nearlyFull (order [1, 3, 1]) ∧ (3 : Byte).toNat < entryCount (1 : Byte).toNat ∧
    (15 : Byte).toNat < entryCount (9 : Byte).toNat ∧ (127 : Byte).toNat < entryCount (2 : Byte).toNat ∧ (1 : Byte) ≠ 0 := by
  unfold Taken; decide +kernel

theorem witness_WriteTableResult :
    let o := order ([1, 3, 1] ++ (laneEntry 3000 500).bytes)
    Taken nearlyFull o ∧ (nearlyFull.clockAt o.time).writeRefusal o.args = none ∧ HoldOk nearlyFull := by
  unfold Taken HoldOk; decide +kernel

/-- R70, R71, R143: on air in DEGRADED, a T8 that reports holdover there begins an episode, and with a hold limit of 0 it fires at once. -/
theorem test_write_begins_episode :
    let s := alignSite.putMonitor { site.monitor with state := .degraded }
    let write := fun limit : Nat =>
      after (.writeTable (order ([8, 0, 1] ++ { SiteEntry.default with holdoverOnDegraded := true, holdLimit := limit }.bytes))) s
    ((write 0).hold, (write 0).lanes[0].holdPending, (write 0).lanes[3].holdPending) =
      ({ episode := true, count := 0, fired := true, due := false }, true, false) ∧
    ((write 1).hold.fired, (write 1).lanes[0].holdPending) = (false, false) := by decide +kernel

/-- One entry of each table T1 to T8, at the table's last index. -/
def lastEntries : List (Nat × Nat × List Byte) :=
  [(1, 3, (laneEntry 3000 500).bytes), (2, 127, [1, 3, 16, 6]), (3, 31, [0, 0, 0, 1]), (4, 15, [1, 2, 7, 6]), (5, 7, List.replicate 18 0x09),
   (6, 7, [1, 0x01, 0x9B] ++ List.replicate 46 0xFF), (7, 3, repeatEntry.bytes), (8, 0, SiteEntry.default.bytes)]

theorem witness_WriteThenReadBack :
    ∀ x ∈ lastEntries, 1 ≤ x.1 ∧ x.1 ≤ 8 ∧ x.2.1 < entryCount x.1 ∧ entryOk x.1 x.2.2 = true := by decide +kernel

/-- Site 37 of 10, COMMISSIONING A SITE, with lane 1 not frozen and room for one answer. -/
def freezeSite : State := { nearlyFull with tables := frozenSite.tables }

/-- Lane 3 of the alignment site, ON_AIR with URGENT. -/
def urgentSite : State := alignSite.modLane 3 (fun _ => { onAirLane 41 with stack := [Level.regular, urgentLevel 30] })

/-- A lane's entry that changes its list lengths. -/
def otherLengths : LaneEntry := { laneEntry 0 0 with regularLen := 5 }

theorem witness_RefusalResults :
    let busy := nearlyFull.putOp (.startUp { next := 13, image := none, defaulted := 0 })
    let silent := nearlyFull.putPreset { nearlyFull.preset with condition := .silent }
    let locked := nearlyFull.putProtect { flags := 0, lock := true }
    (∀ s ∈ [nearlyFull, busy, silent, locked, freezeSite], ∀ l ∈ ([[], [0], [4], [16], [0, 2], [2, 0], [0x20, 0], [1, 4, 1], [1, 0, 0], [0, 0, 1],
        [10, 0, 1], [4, 0x5A, 0x32], [1, 0x5A, 0x31]] : List (List Byte)), Taken s (order l)) ∧
    (9 < (10 : Byte).toNat ∧ entryCount 1 ≤ (4 : Byte).toNat) ∧
    (eventSetOk (halfAt [0x20, 0] 0) = false ∧ laneSetOk 16 = false ∧ tableSetOk (tableSet [2, 0]) = false) ∧
    (busy.presetBusy = true ∧ nearlyFull.presetBusy = false ∧ nearlyFull.protect.lock = false) ∧
    (silent.presetBusy = false ∧ silent.preset.condition = .silent) ∧
    (freezeSite.presetBusy = false ∧ freezeSite.preset.condition = .answering ∧ 4 ≤ (4 : Byte).toNat ∧
      (1 : Byte) = byteOf (1 : LaneNo).val ∧ (0x5A : Byte) ++ (0x31 : Byte) ≠ freezeSite.tables.lane[1].station) := by
  unfold Taken; decide +kernel

theorem witness_RefusalResults_write :
    (∀ l ∈ ([[1, 0, 1], [9, 0, 0], [8, 0, 0], [8, 0, 1] ++ SiteEntry.default.bytes, [8, 1, 1] ++ SiteEntry.default.bytes] : List (List Byte)),
      Taken nearlyFull (order l)) ∧
    (([] : List Byte).length ≠ (1 : Byte).toNat * entrySize 1 ∧ ([] : List Byte).length = (0 : Byte).toNat * entrySize 9 ∧
      SiteEntry.default.bytes.length = (1 : Byte).toNat * entrySize 8) ∧
    ((nearlyFull.putProtect { flags := 0x80, lock := false }).protectFlag 8 = true ∧ nearlyFull.presetBusy = false ∧
      nearlyFull.protectFlag 8 = false ∧ entryCount 8 < (1 : Byte).toNat + (1 : Byte).toNat) ∧
    (let l := { SiteEntry.default with lowThreshold := 10, highThreshold := 10 }.bytes;
      l ∈ cutEntries (entrySize 8) 1 l ∧ entryOk 8 l = false) ∧
    (let e := { SiteEntry.default with divisor := 3 };
      Taken alignSite (order ([8, 0, 1] ++ e.bytes)) ∧ alignSite.presetBusy = false ∧ alignSite.protectFlag 8 = false ∧
        entryOk 8 e.bytes = true ∧ alignSite.timebase.mode ≠ .stopped ∧
        (SiteEntry.load e.bytes).sameSync alignSite.tables.site = false) ∧
    (let o := order [4, 15, 1, 1, 2, 7, 6];
      Taken urgentSite o ∧ urgentSite.protectFlag 4 = false ∧ 15 / (entryCount 4 / 4) = (3 : LaneNo).val ∧ entryOk 4 [1, 2, 7, 6] = true ∧
        urgentSite.urgentOn 3 = true) ∧
    (let e := LaneEntry.load otherLengths.bytes;
      entryOk 1 otherLengths.bytes = true ∧ urgentSite.protectFlag 1 = false ∧
        (e.regularLen, e.bulletinLen, e.urgentLen) ≠
          (urgentSite.tables.lane[3].regularLen, urgentSite.tables.lane[3].bulletinLen, urgentSite.tables.lane[3].urgentLen)) ∧
    (let e := { laneEntry 0 0 with zone := 5 };
      Taken frozenSite (order ([1, 1, 1] ++ e.bytes)) ∧ entryOk 1 e.bytes = true ∧ frozenSite.protectFlag 1 = false ∧
        (∀ m : LaneNo, frozenSite.urgentOn m = false) ∧ frozenSite.frozen[1] = some { station := 0x5A32, zone := 4 } ∧
        (LaneEntry.load e.bytes).zone ≠ 4) := by
  unfold Taken; decide +kernel

theorem witness_OrdersForOthersPass :
    ((order []).target ≠ 255 ∧ listening.listenOnly = true) ∧ ((order []).target ≠ 255 ∧ (order []).target ≠ State.reset.siteAddress) := by
  decide +kernel

theorem witness_ProtectionResults :
    (Taken nearlyFull (order [1, 0xFE]) ∧ nearlyFull.presetBusy = false ∧ nearlyFull.protect.lock = false ∧
      (order [1, 0xFE]).args.length = 2 ∧ tableSetOk (tableSet (order [1, 0xFE]).args) = true) ∧
    (let s := nearlyFull.putProtect { flags := 0xFF, lock := true };
      Taken s (order [0, 2]) ∧ s.presetBusy = false ∧ s.protect.lock = true ∧ (order [0, 2]).args.length = 2) ∧
    (Taken nearlyFull (order [1]) ∧ nearlyFull.presetBusy = false ∧ (order [1]).args = [1]) ∧
    (Taken nearlyFull (order []) ∧ (order []).args = []) := by unfold Taken; decide +kernel

theorem witness_FreezeResults :
    (let o := order ([byteOf 1] ++ be16 freezeSite.tables.lane[1].station);
      Taken freezeSite o ∧ freezeSite.presetBusy = false ∧ freezeSite.preset.condition = .answering ∧
        o.args = [byteOf 1] ++ be16 freezeSite.tables.lane[1].station ∧ freezeSite.frozen[1] = none ∧
        ({ freezeSite with frozen := frozenSite.frozen }).frozen[1].isSome = true) ∧
    (let f : Freezing := { lane := 1, station := 0x5A32, zone := 4, reply := { tag := 9, answered := true } };
      (freezeSite.putOp (.freezing f)).preset.op = .freezing f ∧ CanEnd (freezeSite.putOp (.freezing f)) f.reply) := by
  unfold Taken CanEnd; decide +kernel

theorem witness_LaneOnResult :
    (order [15]).args = [15] ∧ laneSetOk 15 = true ∧ Taken alignSite (order [15]) ∧
    (∀ n : LaneNo, (15 : Byte).getLsbD n.val = true → alignSite.lanes[n].mode = .off → alignSite.tables.lane[n].station ≠ 0) ∧
    (Taken nearlyFull (order [8]) ∧
      ∃ n : LaneNo, (8 : Byte).getLsbD n.val = true ∧ nearlyFull.lanes[n].mode = .off ∧ nearlyFull.tables.lane[n].station = 0) := by
  unfold Taken; decide +kernel

theorem witness_LaneOffResult :
    ((order [15]).args = [15] ∧ laneSetOk 15 = true ∧ Taken alignSite (order [15]) ∧
      ∀ n : LaneNo, (15 : Byte).getLsbD n.val = true → alignSite.urgentOn n = false) ∧
    (Taken urgentSite (order [8]) ∧ laneSetOk 8 = true ∧ ∃ n : LaneNo, (8 : Byte).getLsbD n.val = true ∧ urgentSite.urgentOn n = true) := by
  unfold Taken; decide +kernel

theorem witness_StartAirResult :
    (Taken alignSite (order []) ∧ alignSite.timebase.mode ≠ .stopped) ∧
    (Taken (syncSite .follower) (order []) ∧ (syncSite .follower).timebase.mode = .stopped ∧
      (syncSite .follower).tables.site.role = .follower) ∧
    (Taken (syncSite .master) (order []) ∧ (syncSite .master).timebase.mode = .stopped ∧ (syncSite .master).tables.site.role ≠ .follower ∧
      ∀ n : LaneNo, (syncSite .master).lanes[n].mode ≠ .onAir) := by unfold Taken; decide +kernel

/-- STOP AIR with a frame on the line, with none and a join frame in build, in PRIMING, and with URGENT. -/
theorem witness_StopAirResult :
    (order []).args = [] ∧ Taken alignSite (order []) ∧ (∀ n : LaneNo, alignSite.urgentOn n = false) ∧
    (alignSite.timebase.mode.onGrid = true ∧ alignSite.timebase.onLine.isSome = true ∧ alignSite.timebase.stopPending = false) ∧
    (let s := after (.startAir (order [])) (syncSite .master);
      let u := (s.modLane 1 (fun _ => { onAirLane 3 with onLine := none, stop := .toOff })).putAnswers AnswerUnit.reset;
      Taken u (order []) ∧ (∀ n : LaneNo, u.urgentOn n = false) ∧ u.lanes[0].mode = .waiting ∧ u.lanes[0].inBuild.isSome = true ∧
        u.lanes[1].mode = .onAir ∧ u.lanes[1].onLine = none ∧ u.timebase.mode = .running ∧ u.timebase.onLine = none) ∧
    (let s := (syncSite .follower).putTimebase { Timebase.reset with mode := .priming, expected := some 6605000 };
      Taken s (order []) ∧ s.timebase.mode ≠ .stopped ∧ s.timebase.mode.onGrid = false) ∧
    (Taken urgentSite (order []) ∧ urgentSite.urgentOn 3 = true) := by unfold Taken; decide +kernel

theorem witness_PresetOrdersTaken :
    (order []).args = [] ∧ Taken nearlyFull (order []) ∧ nearlyFull.presetBusy = false ∧ nearlyFull.preset.condition = .answering ∧
    nearlyFull.timebase.mode = .stopped ∧ nearlyFull.timebase.stopPending = false ∧
    (Taken alignSite (order []) ∧ alignSite.presetBusy = false ∧ alignSite.timebase.mode ≠ .stopped) := by unfold Taken; decide +kernel

theorem witness_ReadEventsResult : (order []).args = [] ∧ Taken nearlyFull (order []) := by unfold Taken; decide +kernel

theorem witness_SetAlertMaskResult :
    let o := order [0x1F, 0xFF]
    o.args.length = 2 ∧ eventSetOk (halfAt o.args 0) = true ∧ Taken site o ∧
      (after (.setAlertMask o) site).latched .feedLost = false ∧ (after (.setAlertMask o) site).answers.queue.length < 8 ∧
      (after (.setAlertMask o) eventSite).latched .scheduleFull = true := by unfold Taken; decide +kernel

theorem witness_EventMarkerRestartResults :
    (order [0x1F, 0xFF]).args.length = 2 ∧ eventSetOk (halfAt (order [0x1F, 0xFF]).args 0) = true ∧ Taken nearlyFull (order [0x1F, 0xFF]) ∧
    Taken nearlyFull (order []) ∧ (order []).args = [] := by unfold Taken; decide +kernel

theorem witness_LatchRaisesAlert :
    eventSite.latched .scheduleFull = true ∧ (site.latched .feedLost = false ∧ site.answers.mask.getLsbD 0 = false) ∧
    (fullQueue.latched .feedLost = false ∧ fullQueue.answers.mask.getLsbD 0 = true ∧ fullQueue.listenOnly = false ∧
      8 ≤ fullQueue.answers.queue.length) ∧
    (let s := nearlyFull.putAnswers { nearlyFull.answers with mask := 1 };
      s.latched .feedLost = false ∧ s.answers.mask.getLsbD 0 = true ∧ s.listenOnly = false ∧ s.answers.queue.length < 8) ∧
    listening.listenOnly = true ∧ ((order []).target = fullQueue.siteAddress ∧ (order []).args = [] ∧ (order [0]).args ≠ []) := by
  decide +kernel

/-- R149: an order taken at a full queue is carried out and its answer is lost. -/
theorem test_answer_lost :
    let t := after (.setMarker (order [])) (fullQueue.putAnswers { fullQueue.answers with lost := 3 })
    t.answers.marker = true ∧ t.answers.lost = 4 ∧ t.latched .answerLost = true ∧ t.answers.queue.length = 8 := by decide +kernel

theorem witness_AnswersBounded :
    let s := fullQueue.putPending [.poll (order [])]
    AnswersOk s ∧ steps s = true := by unfold AnswersOk; decide +kernel

theorem witness_ListenOnlySilent :
    let s := listening.putPending [.poll (orderAll [])]
    s.listenOnly = true ∧ ListenOk s ∧ steps s = true := by unfold ListenOk; decide +kernel

theorem witness_InsertionTakesPrefix : (64 : Nat) ≤ 64 ∧ fitting 56 [answer 1 .done] = [] ∧ fitting 55 [answer 1 .done] ≠ [] := by
  decide +kernel

/-- A full window of 50 outcomes, nine of them bad. -/
def fullWindow : State :=
  site.putMonitor { site.monitor with window := List.replicate 9 true ++ List.replicate 41 false, bad := 9, lostAt := some 5000 }

theorem witness_WindowCountsBad :
    let s := { fullWindow with pending := [.syncPatternSeen 2000], feed := { fullWindow.feed with inProgress := some 1000 } }
    WindowOk s ∧ steps s = true := by unfold WindowOk; decide +kernel

theorem witness_OutcomeRules :
    WindowOk fullWindow ∧ fullWindow.monitor.state = .good ∧
    (let s := fullWindow.putMonitor { fullWindow.monitor with state := .degraded }; WindowOk s ∧ s.monitor.state = .degraded) ∧
    (let s := fullWindow.putMonitor { fullWindow.monitor with state := .lost }; WindowOk s ∧ s.monitor.state = .lost) := by
  unfold WindowOk; decide +kernel

/-- R71, R139: the tenth bad outcome degrades the feed; with holdover reported there and a hold limit of 0 the episode fires at once. -/
theorem test_degraded_fires :
    let site8 : SiteEntry := { SiteEntry.default with highThreshold := 10, holdoverOnDegraded := true, holdLimit := 0 }
    let s := { site with
      tables := { Tables.default with site := site8 }, lanes := alignSite.lanes
      monitor := { site.monitor with window := List.replicate 9 true, bad := 9 } }
    let t := s.recordOutcome true true
    (t.monitor.state, t.monitor.bad, t.hold.fired, t.lanes[1].holdPending) = (.degraded, 10, true, true) := by decide +kernel

/-- A pattern and the timer with a frame in progress and without, in GOOD and in ABSENT; a frame on FEED OUT at the last instant of its 551 bytes and
at the first after it. -/
theorem witness_FeedEventResults :
    site.feed.inProgress = none ∧ (State.receiving fullWindow 1000).feed.inProgress.isSome = true ∧ fullWindow.monitor.lostAt = some 5000 ∧
    fullWindow.monitor.state = .good ∧ (State.reset.monitor.lostAt = some 100000 ∧ State.reset.monitor.state = .absent) ∧
    (let f : Forward := { start := 918250, span := 548, frame := feedFrame 5 [] };
      (site.putFeed { site.feed with forwards := [f] }).feed.forwards = f :: [] ∧
      (site.putFeed { site.feed with sending := some f }).feed.sending = some f ∧
      548 * sdiff 918800 f.start < 551 * (f.span : Int) ∧ 551 * (f.span : Int) ≤ 548 * sdiff 918801 f.start ∧
      atOrBefore (918800 : Micros) 918801 = true) := by decide +kernel

/-- R113: an order after more than 2^31 µs without an event finds the clock at its instant. -/
theorem test_clock_after_long_idle : (after (.startAir { order [] with time := 0x90000000 }) site).clock = 0x90000000 := by decide +kernel

/-- R132: the line is idle again when the frame's bytes have gone. -/
theorem test_feed_out_ends :
    let f : Forward := { start := 918250, span := 548, frame := feedFrame 5 [] }
    let s := (site.putClock 918250).putFeed { site.feed with sending := some f }
    s.feedOut = some (frameBytes f.frame) ∧ s.feedOutByte = some 0xB4 ∧ (s.clockTo 918800).audioOut = some f.frame.audio ∧
      (s.clockTo 918801).feedOut = none ∧ (s.clockTo 918801).audioOut = none := by decide +kernel

theorem witness_BadFrameResult :
    let a := arrival 918000 { feedFrame 5 [] with check := 0 }
    portSite.feed.inProgress = some 900000 ∧ a.frame.arrivable = true ∧ a.frame.good = false := by decide +kernel

/-- A field parsed to its end, one with an unknown kind, and an insertion that takes the DONE of a RESTART. -/
theorem witness_GoodFrameForwarded :
    let a := arrival 918000 (feedFrame 4095 portField)
    let b := arrival 918000 (feedFrame 4095 (portField.set 30 9))
    let c := arrival 918000 (feedFrame 4095 [])
    let r := portSite.putAnswers { AnswerUnit.reset with restartAt := some 1000000, queue := [{ answer 1 .done with ofRestart := true }] }
    let parse := fun (s : State) (a : Arrival) => (((s.clockAt a.time).putFeed State.reset.feed).outcomeAt a .beforeParse).parseField a 900000
    (portSite.feed.inProgress = some 900000 ∧ r.feed.inProgress = some 900000) ∧
    (∀ x ∈ [a, b, c], x.frame.arrivable = true ∧ x.frame.good = true ∧ x.deadlineFirst = false) ∧
    ((parse portSite a).free = some 38 ∧ (parse portSite b).free = none ∧
      (parse portSite a).part.state.answers.restartAt = none) ∧
    ((parse r c).free = some 0 ∧ (parse r c).part.state.answers.restartAt.isSome = true ∧
      (fitting 0 (parse r c).part.state.answers.queue).map Answer.ofRestart = [true]) := by decide +kernel

theorem witness_EmptyFieldTakesAnswers :
    let a := arrival 918000 (feedFrame 2211 [])
    portSite.feed.inProgress = some 900000 ∧ a.frame.arrivable = true ∧ a.frame.good = true ∧ byteAt a.frame.anc 0 = 0 ∧
      portSite.answers.mask = 0 ∧ portSite.answers.restartAt = none := by decide +kernel

/-- The messages of the worked field: all are taken, the ORDER to site 37 leaves. Behind them a zero, an unknown kind, and a message past the field's end;
and a field of one message and one byte. -/
theorem witness_CompactionMovesBytes :
    let ms : List (Byte × List Byte) :=
      [(1, [17, 1, 0, 8, 0, 5]), (3, [37, 9, 1]), (2, [0, 8, 12] ++ List.replicate 12 0x41), (4, [52] ++ List.replicate 10 0xCC)]
    let c : Chosen := { state := portSite, prompt := [] }
    let taken := takeAll 2210 900000 c ms
    (List.replicate 64 (1 : Byte)).length = 64 ∧ 62 + 2 ≤ 64 ∧
    (taken.map (fun r => r.2.map Prod.fst) = some [1, 2, 4] ∧ taken.map (fun r => r.1.state.answers.queue.length) = some 3) ∧
    (ms.flatMap messageBytes ++ ([0] ++ List.replicate 20 0xDD)).length = 64 ∧
    ((ms.flatMap messageBytes ++ ([9, 0] ++ List.replicate 19 0)).length = 64 ∧ takeMessage 2210 900000 9 [] c = none) ∧
    64 < 38 + (2 + (byteAt [1, 25] 1).toNat) ∧
    (takeAll 2210 900000 c [(4, List.replicate 61 0)]).map (fun r => (r.2.flatMap messageBytes).length) = some 63 ∧
    (∃ f, orderCommands[18]? = some f) ∧ (order []).target = site.siteAddress := by
  refine ⟨?_, ?_, ?_, ?_, ?_, ?_, ?_, ⟨_, rfl⟩, ?_⟩ <;> decide +kernel

theorem witness_HoldFollowsReport :
    let s := fullWindow.putPending [.lostTimerExpiry]
    HoldOk s ∧ steps s = true ∧ HoldOk State.reset := by unfold HoldOk; decide +kernel

theorem witness_LaneShapesKept :
    let s := urgentSite.putPending [.lineStart none []]
    LanesOk s ∧ TablesOk s ∧ steps s = true := by unfold LanesOk TablesOk; decide +kernel

/-- 04, the hold removal in a build: of two levels the one entered before the frame goes, HOLD_END, and B falls without an audio time; the flag clears. -/
theorem test_build_removes_held :
    let l := { onAirLane 41 with
      stack := [Level.regular, bulletinLevel 30], prevB := true, holdPending := true, schedule := [⟨.urgentEnd, 42, 7, false⟩] }
    let r := (alignSite.store 0).build { number := 42, position := 2, start := 3360000, cycle := 4 } l
    (r.lane.stack, r.lane.holdPending, r.lane.triggers) = ([Level.regular], false, [⟨.bDown, 3360000, none⟩]) ∧
      r.events = [.strayEnd, .holdEnd] := by decide +kernel

/-- R6: bit 4 of the frame on the line, T, in its bit period, and the idle line. -/
theorem test_lane_line :
    let s := { alignSite with
      clock := 3202500
      lanes := alignSite.lanes.set 0 { onAirLane 41 with onLine := some ⟨40, 0x08000000, 0, 0, 0⟩ } }
    (s.laneLevel 0, (s.putClock 3203125).laneLevel 0, s.bitClock 0, s.laneLevel 3, s.bitClock 3) = (true, false, true, false, false) := by
  decide +kernel

theorem witness_StacksChangeAtBuildsOnly :
    leavesStacks (.recordArrives 0 0) = true ∧ steps (urgentSite.putPending [.recordArrives 0 0]) = true := by decide +kernel

theorem witness_TransitionsApplied :
    stackShape [Level.regular] = true ∧ stackShape [Level.regular, bulletinLevel 42, urgentLevel 43] = true ∧
    holds [Level.regular] .bulletin = false ∧ holds [Level.regular, bulletinLevel 42] .bulletin = true ∧
    holds [Level.regular, urgentLevel 43] .urgent = true := by decide +kernel

theorem witness_LaneEventResults :
    let r : Transition := ⟨.bulletinStart, 41, 5, false⟩
    let s := alignSite.modLane 0 (fun l => { l with records := [r] })
    let full := s.modLane 0 (fun l => { l with schedule := List.replicate 8 r })
    (s.lanes[0].mode = .onAir ∧ s.lanes[0].records[0]? = some r ∧ s.lanes[0].schedule.length < 8) ∧
    (full.lanes[0].mode = .onAir ∧ full.lanes[0].records[0]? = some r ∧ 8 ≤ full.lanes[0].schedule.length) ∧
    (alignSite.putHold { episode := true, count := 16, fired := false, due := true }).hold.due = true := by decide +kernel

/-- A frame of position 1, and one of position 0: a firing due at the limit, a line in REPEAT with its level up, a MASTER's pulse at the last count of a
divisor; and the next frame of position 0, where a WAITING lane makes its join build. -/
theorem witness_LineStartResult :
    (alignSite.timebase.built = some { number := 41, position := 1, start := 3280000, cycle := 4 } ∧ alignSite.timebase.lastOfGrid = false ∧
      alignSite.timebase.counts = some { number := 42, position := 2, cycle := 5 }) ∧
    (let s := { (repeatSite.modLane 0 (fun l => { l with cue := { CueLine.cleared with followed := true } })) with
        timebase := running 39 3120000, hold := { episode := true, count := 15, fired := false, due := false } };
      s.timebase.built.map LineFrame.position = some 0 ∧ s.timebase.mode = .running ∧ s.tables.site.holdLimit ≤ s.hold.count + 1 ∧
        s.tables.cueLines[0].mode = .repeating ∧ s.lanes[0].cue.train = .idle) ∧
    (let s := after (.startAir (order [])) (syncSite .master);
      s.timebase.built.map LineFrame.position = some 0 ∧ s.timebase.divisorCount = 0 ∧ s.tables.site.role = .master ∧
        s.lanes[0].inBuild.isSome = true) ∧
    ((running 38 3040000).counts = some { number := 40, position := 0, cycle := 5 } ∧ alignSite.tables.lane[3].station ≠ 0 ∧
      alignSite.lanes[3].mode = .waiting ∧ alignSite.lanes[3].inBuild = none) := by decide +kernel

/-- R71, R119: at the cycle start the count reaches the limit and the firing is to come; a MASTER schedules a pulse at count 0 alone. -/
theorem test_cycle_start :
    let s := { alignSite with timebase := running 39 3120000, hold := { episode := true, count := 15, fired := false, due := false } }
    (after (.lineStart none []) s).hold = { episode := true, count := 16, fired := false, due := true } ∧
    (after (.lineStart (some 0) []) s).hold.fired = true ∧ (after (.lineStart (some 0) []) s).lanes[0].stack = [Level.regular] ∧
    (let m : State := { (syncSite .master) with timebase := { running 39 3120000 with divisorCount := 1 } };
      (after (.lineStart none []) m).sync.pulseAt = none ∧ (after (.lineStart none []) m).timebase.divisorCount = 0) := by decide +kernel

/-- R72: a firing between the builds of two lanes: lane 2, taken before it, keeps its BULLETIN with hold-pending set; lane 0, after it, removes it. -/
theorem test_firing_between_lanes :
    let s := { alignSite with
      lanes := (alignSite.lanes.set 0 { onAirLane 40 with stack := [Level.regular, bulletinLevel 30] }).set 2
        { onAirLane 40 with stack := [Level.regular, bulletinLevel 30] }
      timebase := running 39 3120000, hold := { episode := true, count := 15, fired := false, due := false } }
    let t := after (.lineStart (some 1) [2, 0, 1, 3]) s
    (t.lanes[2].stack.length, t.lanes[2].holdPending, t.lanes[0].stack.length, t.lanes[0].holdPending) = (2, true, 1, false) ∧
      t.latched .holdEnd = true := by decide +kernel

/-- A realigned line start at the end of the old grid's last frame. -/
theorem witness_LineStartResult_oldGrid :
    let s := alignSite.putTimebase { running 24 9140600 with lastOfGrid := true }
    s.timebase.built.map LineFrame.start = some (9140600 + 80000) ∧ s.timebase.onLine.map LineFrame.start = some 9140600 ∧
      s.timebase.lastOfGrid = true ∧ s.timebase.stopPending = false := by decide +kernel

theorem witness_GridEdgeResults :
    (let s := alignSite.putTimebase { running 24 9140600 with built := none, earlyFor := some 9805000 };
      s.timebase.earlyFor = some 9805000 ∧ s.lanes[0].mode = .onAir ∧
        (s.timebase.mode = .running ∧ s.lanes[3].mode = .waiting ∧ s.lanes[3].inBuild = none ∧ s.tables.lane[3].station ≠ 0)) ∧
    (let s := (alignSite.modLane 0 (fun l => { l with stop := .toOff })).putTimebase
          { running 24 9140600 with built := none, lastOfGrid := true, stopPending := true };
      s.timebase.onLine.isSome = true ∧ s.timebase.lastOfGrid = true ∧ s.timebase.stopPending = true ∧ s.lanes[0].stop ≠ .none) ∧
    (let s := alignSite.putTimebase { running 24 9140600 with built := none, lastOfGrid := true };
      s.timebase.onLine.isSome = true ∧ s.timebase.lastOfGrid = true ∧ s.timebase.stopPending = false) := by decide +kernel

/-- What the frame builder of lane 0 of the alignment site sees, with a REGULAR list of active length 4. -/
def scheduler : Store :=
  { tables := alignSite.tables, titles := alignSite.titles, lane := 0 }

theorem witness_LengthCheck :
    scheduler.listLength .regular ≤ (Cursor.start).entry ∧ scheduler.listLength .regular = 0 ∧
    ({ scheduler with tables := { alignSite.tables with
        lane := alignSite.tables.lane.set 0 { laneEntry 0 0 with regularLen := 4 } } } : Store).listLength .regular = 4 := by decide +kernel

/-- The entry of a visit that goes on, and one of a visit whose burst of 6 is used up. -/
theorem witness_LengthCheck_visit :
    let x : Store := { scheduler with tables := { alignSite.tables with
      regular := Tables.default.regular.set 0 { enabled := true, kind := .title, index := 16, burst := 6 } } }
    let c : Cursor := { entry := 0, visit := some (.title 3), progress := 5 }
    c.visit = some (.title 3) ∧ (x.listEntry .regular 0).enabled = true ∧ x.item (x.listEntry .regular 0) = .title 3 ∧
      c.progress < (x.listEntry .regular 0).burst ∧ Cursor.start.visit = none := by decide +kernel

/-- A service in progress, none in progress, and the two kinds of top level. -/
theorem witness_SearchFindsFirst :
    let l := { onAirLane 41 with queue := [3, 5], serving := some 2 }
    (l.serving = some 2 ∧ l.queue = 3 :: [5]) ∧ (onAirLane 41).serving = none ∧ (onAirLane 41).stack = [] ++ [Level.regular] ∧
      Level.regular.kind = .regular ∧ (urgentLevel 30).kind ≠ .regular ∧ Lane.reset.stack = [] := by decide +kernel

/-- R33, R34: at the start of a service a request for an empty title goes and the next one's first segment of three is sent; at the last one its request
goes. -/
theorem test_insertion :
    let x := { scheduler with titles := alignSite.titles.set 3 { length := 20, text := List.replicate 45 0x41, version := 1 } }
    let l := { onAirLane 41 with queue := [5, 3] }
    let r := x.select l
    let last := x.select { r.2 with serving := some 2, segs := r.2.segs.put (.title 3) 2 }
    (r.1, r.2.queue, r.2.serving) = ({ item := .title 3, segment := 0, count := 3 }, [3], some 1) ∧
    (last.1.segment, last.2.queue, last.2.serving) = (2, [], none) := by decide +kernel

/-- R32, R51: a title that changes while its lane is sending it is sent from its first segment again. -/
theorem test_title_restarts_service :
    let s := alignSite.modLane 0 (fun l => { l with queue := [3], serving := some 2, segs := l.segs.put (.title 3) 2 })
    let t := s.takeTitle { mask := 8, length := 1, text := [0x41] }
    (t.lanes[0].queue, t.lanes[0].serving, t.lanes[0].segs.get (.title 3)) = ([3], some 0, 0) := by decide +kernel

theorem witness_TitleTaken :
    (List.replicate 45 (0x41 : Byte)).length = 45 ∧ alignSite.lanes[0].mode = .onAir ∧ alignSite.tables.lane[0].zone = 3 ∧
    (0 = alignSite.titles[3].length ∧ ([] : List Byte) = alignSite.titles[3].text.take 0) := by decide +kernel

theorem witness_RecentCuesKept :
    let s := { alignSite with recentCues := (List.range 32).map byteOf, pending := [.holdFires] }
    RecentOk s ∧ steps s = true := by unfold RecentOk; decide +kernel

/-- A START at its bound of 567; an END without a START, at its bound of 575, and one raised to 8 frames after the START found in the schedule. -/
theorem witness_StartTargetBound :
    (TransKind.bulletinStart = .bulletinStart ∨ TransKind.bulletinStart = .urgentStart) ∧
    (alignRecord (laneEntry 3000 0) (onAirLane 41) ⟨40, 3200000⟩ .bulletinStart
      { number := 1, kind := some .bulletinStart, mask := 8, effective := 2047, carrier := 0, syncTime := 3250000 }).target = 42 + 544 ∧
    ((onAirLane 41).schedule = [] ∧ (alignRecord (laneEntry 3000 0) (onAirLane 41) ⟨40, 3200000⟩ .bulletinEnd
      { number := 1, kind := some .bulletinEnd, mask := 8, effective := 2047, carrier := 0, syncTime := 3250000 }).target = 42 + 553) ∧
    (let l := { onAirLane 41 with schedule := [⟨.bulletinStart, 609, 0, false⟩] };
      (l.schedule.getLast?.map Transition.target = some 609 ∧ sdiff (609 : AirNo) 42 = 567) ∧
      (alignRecord (laneEntry 0 0) l ⟨40, 3200000⟩ .bulletinEnd
        { number := 1, kind := some .bulletinEnd, mask := 8, effective := 0, carrier := 0, syncTime := 3250000 }).target = 42 + 575) := by
  decide +kernel

/-- A cue that is known, one of unknown kind, one without a frame reference, and one that three lanes take, at once or on its way. -/
theorem witness_StartTargetBound_cue :
    let m : CueMsg := { number := 17, kind := some .bulletinStart, mask := 8, effective := 5, carrier := 4090, syncTime := 3250000 }
    let c : Chosen := { state := alignSite, prompt := [true] }
    let t := c.takeCue m
    (17 ∉ alignSite.recentCues ∧ alignSite.timebase.reference = some ⟨40, 3200000⟩ ∧ site.timebase.reference = none) ∧
    (t.prompt, t.state.recentCues, t.state.lanes[0].schedule.length, t.state.lanes[1].records.length) = ([], [17], 1, 1) ∧
    (t.takeCue m = t ∧ c.takeCue { m with kind := none } = c) := by decide +kernel

/-- R109: until T7 is placed a line of polarity active low rests high, whatever its train; then the train and the force decide. -/
theorem test_cue_level :
    let s := fun (f : Force) (placed : Bool) =>
      let e := { repeatEntry with activeLow := true, force := f }
      ({ repeatSite with tables := { repeatSite.tables with cueLines := Tables.default.cueLines.set 0 e }
                         preset := { site.preset with t7Placed := placed } }).modLane 0
        (fun l => { l with cue := CueLine.cleared.startTrain e 3250000 })
    ((s .normal true).cueLevel 0, (s .inactive true).cueLevel 0, (s .normal false).cueLevel 0) = (false, true, true) := by decide +kernel

theorem witness_TriggerResults :
    let g : Trigger := ⟨.bUp, 4160000, some 4670000⟩
    let q : Queued := ⟨.bUp, 4770000⟩
    let s := repeatSite.modLane 0 (fun l => { l with triggers := [g] })
    let full := repeatSite.modLane 0 (fun l => { l with triggers := [g], cue := { CueLine.cleared with queue := List.replicate 4 q } })
    let ofU := repeatSite.modLane 0 (fun l => { l with triggers := [{ g with edge := .uUp }] })
    (s.lanes[0].triggers = g :: [] ∧ s.lanes[0].mode = .onAir ∧ s.tables.cueLines[0].mode ≠ .off ∧
      s.tables.cueLines[0].urgentOnly = g.edge.isUrgent ∧ s.lanes[0].cue.queue.length < 4) ∧
    (full.lanes[0].triggers = g :: [] ∧ full.lanes[0].mode = .onAir ∧ full.tables.cueLines[0].mode ≠ .off ∧
      4 ≤ full.lanes[0].cue.queue.length ∧ full.lanes[0].cue.queue = q :: List.replicate 3 q) ∧
    (ofU.lanes[0].triggers = [{ g with edge := .uUp }] ∧ ofU.tables.cueLines[0].urgentOnly ≠ Edge.uUp.isUrgent) := by decide +kernel

theorem witness_PulseTrainRuns :
    let s := repeatSite.modLane 0 (fun l => { l with cue := CueLine.cleared.startTrain repeatEntry 4770000 })
    s.lanes[0].cue.phaseEnd = some 5270000 ∧ 1 ≤ repeatEntry.pulses ∧ CueLine.cleared.closing = false ∧
      ({ CueLine.cleared with closing := true } : CueLine).closing = true := by decide +kernel

/-- A follower in PRIMING, with a pulse at either edge of its window, and a running one. -/
theorem witness_SyncPulseResults :
    let s := (syncSite .follower).putTimebase { Timebase.reset with mode := .priming, expected := some 6605000 }
    let r := (syncSite .follower).putTimebase { running 8 7860600 with expected := some 7885600 }
    (s.tables.site.role = .follower ∧ s.timebase.stopPending = false ∧ s.timebase.mode = .priming ∧ s.timebase.expected = some 6605000 ∧
      sdiff (s.clockAt 6603750).clock 6605000 = -1250 ∧ sdiff (s.clockAt 6606250).clock 6605000 = 1250 ∧
      sdiff (s.clockAt 6606251).clock 6605000 = 1251) ∧
    (r.timebase.mode.onGrid = true ∧ r.timebase.expected = some 7885600 ∧ sdiff (r.clockAt 7886850).clock 7885600 = 1250 ∧
      1 ≤ r.tables.site.divisor) ∧
    (alignSite.tables.site.role ≠ .follower) := by decide +kernel

/-- R121: after a missed pulse in PRIMING the next one primes afresh. -/
theorem test_primes_afresh :
    let s := (syncSite .follower).putTimebase { Timebase.reset with mode := .priming, expected := some 6605000 }
    let t := after (.syncPulse 6700000) (after .syncPulseMissed s)
    t.timebase.mode = .priming ∧ t.timebase.expected = some (6700000 + 1280000) := by decide +kernel

theorem witness_SlipResult :
    let s := (syncSite .follower).putTimebase { running 24 9140600 with expected := some 9165600 }
    s.tables.site.role = .follower ∧ s.timebase.stopPending = false ∧ s.timebase.mode.onGrid = true ∧
      s.timebase.expected.bind (fun e => expectedFor (s.clockAt 9166851).clock e s.tables.site.period) = none ∧
      s.timebase.expected.bind (fun e => expectedFor (s.clockAt 9166850).clock e s.tables.site.period) ≠ none := by decide +kernel

theorem witness_SyncLineResults :
    let s := (syncSite .follower).putTimebase { running 66 13005000 with expected := some 13030000, misses := 3 }
    (s.tables.site.role = .follower ∧ s.timebase.stopPending = false ∧ s.nextUnmet = some 13030000 ∧ s.timebase.mode = .running ∧
      s.timebase.misses ≤ 3 ∧ s.timebase.misses = 3) ∧
    ((s.putTimebase { s.timebase with mode := .holdover }).nextUnmet = some 13030000) ∧
    (((syncSite .follower).putTimebase { Timebase.reset with mode := .priming, expected := some 6605000 }).nextUnmet = some 6605000) ∧
    ((s.putSync { pulseAt := some 5, lowUntil := some 6 }).sync = { pulseAt := some 5, lowUntil := some 6 }) := by decide +kernel

theorem witness_TimebaseKept :
    let s := (syncSite .follower).putTimebase { running 24 9140600 with expected := some 9165600, misses := 3 }
    let s' := s.putPending [.syncPulse 9190000]
    TimebaseOk s' ∧ steps s' = true := by unfold TimebaseOk; decide +kernel

/-- The start-up load at its next step `k`. -/
def loading (k : Nat) : State := State.reset.putOp (.startUp { next := k, image := if k = 0 then none else some true, defaulted := 0 })

theorem witness_StartUpSteps :
    ((loading 0).preset.op = .startUp { next := 0, image := none, defaulted := 0 } ∧ (loading 0).loadSource = .preset ∧
      headerValid (loading 0).memory.header = false) ∧
    ((loading 7).preset.op = .startUp { next := 7, image := some true, defaulted := 0 } ∧
      tableRecordGood 8 ((loading 7).memory.table 8) = false) ∧
    ((loading 8).preset.op = .startUp { next := 8, image := some true, defaulted := 0 } ∧ recordGood 3 (sealRecord [0]) = true ∧
      recordGood 3 (loading 8).memory.flags = false) ∧
    ((loading 12).preset.op = .startUp { next := 9 + (3 : LaneNo).val, image := some true, defaulted := 0 }) ∧
    ((loading 13).preset.op = .startUp { next := 13, image := some true, defaulted := 0 } ∧
      (loading 13).tables.site.autostart = false ∧ (loading 13).timebase.mode = .stopped ∧
      ∀ n : LaneNo, (loading 13).lanes[n].mode ≠ .onAir) ∧
    { SiteEntry.default with autostart := true }.autostart = true ∧
    (let l := sealRecord [1, 0x5A, 0x32, 15];
      freezeRecordGood 1 l = true ∧ isErased l = false ∧ (byteAt l 3).toNat < 16) ∧
    (isErased PresetMemory.erased.freeze[3] = true) ∧ (freezeRecordGood 1 [1, 0, 0, 0, 0, 0] = false ∧ isErased [1, 0, 0, 0, 0, 0] = false) := by
  decide +kernel

/-- R178: a memory that falls silent at the protect record keeps the autostart from acting; at a freeze record it does not (assumption 21). -/
theorem test_silence_and_autostart :
    let s := fun k : Nat => { loading k with tables := { Tables.default with site := { SiteEntry.default with autostart := true } } }
    let mode := fun k : Nat => (after (.startUpLoadEnd 9 true) (after (.presetAccessTimeout 5 0) (s k))).timebase.mode
    (mode 8, mode 9) = (.stopped, .running) := by decide +kernel

/-- What a load places at a part that runs, with URGENT on lane 3 and lane 1 frozen: the sync fields, the lengths of lane 3 and the identity of lane 1
stay, the rest is the record's. -/
theorem test_load_keeps :
    let e := { laneEntry 900 0 with station := 1, zone := 9, regularLen := 5 }
    let l := sealRecord (1 :: (List.replicate 4 e.bytes).flatten)
    let s := { (urgentSite.putOp (.startUp { next := 0, image := some true, defaulted := 0 })) with
      frozen := frozenSite.frozen, memory := { PresetMemory.erased with tables := PresetMemory.erased.tables.set 0 l } }
    let t := (after (.startUpTablePlaced 3250000) s).tables.lane
    (t[1].station, t[1].zone, t[1].da, t[1].regularLen) = (0x5A32, 4, 900, 5) ∧
    (t[3].station, t[3].zone, t[3].da, t[3].regularLen) = ((1 : Half), (9 : Zone), 900, s.tables.lane[3].regularLen) := by decide +kernel

/-- R177: a good record is taken as it stands, with no range check: a Da of 3001. -/
theorem test_load_checks_no_range :
    let e := laneEntry 3001 0
    let l := sealRecord (1 :: (List.replicate 4 e.bytes).flatten)
    tableRecordGood 1 l = true ∧ entryOk 1 e.bytes = false ∧ (Tables.default.fromRecord 1 l).lane[2].da = 3001 := by decide +kernel

theorem witness_PresetSteps :
    let r : Reply := { tag := 9, answered := true }
    let save : Saving := { next := 10, reply := r }
    let first : Saving := { next := 0, reply := r }
    let head : Reload := { headerRead := false, todo := [], flags := false, lockClear := false, defaulted := 0, reply := r }
    let body : Reload := { headerRead := true, todo := [8], flags := false, lockClear := true, defaulted := 0, reply := r }
    let last : Reload := { headerRead := true, todo := [], flags := true, lockClear := true, defaulted := 0, reply := r }
    let freeze : Freezing := { lane := 1, station := 0x5A32, zone := 4, reply := r }
    ((nearlyFull.putOp (.saving save)).preset.op = .saving save ∧ save.next ≤ 10 ∧ 1 ≤ save.next) ∧
    ((nearlyFull.putOp (.saving first)).preset.op = .saving first ∧ first.next = 0) ∧
    ((nearlyFull.putOp (.reloading head)).preset.op = .reloading head ∧ head.headerRead = false ∧
      headerValid (sealRecord [0xA5]) = true ∧ headerValid PresetMemory.erased.header = false) ∧
    ((nearlyFull.putOp (.reloading body)).preset.op = .reloading body ∧ body.headerRead = true ∧ body.todo = 8 :: []) ∧
    ((nearlyFull.putOp (.reloading last)).preset.op = .reloading last ∧ last.headerRead = true ∧ last.todo = []) ∧
    ((nearlyFull.putOp (.freezing freeze)).preset.op = .freezing freeze ∧ nearlyFull.preset.op = .idle) ∧
    ((loading 12).preset.op = .startUp { next := 12, image := some true, defaulted := 0 } ∧ (loading 12).loadSource = .preset ∧
      (loading 13).preset.op = .startUp { next := 13, image := some true, defaulted := 0 }) := by decide +kernel

/-- R180: a memory that falls silent at the last write of a SAVE leaves the INVALID header. -/
theorem test_save_cut_at_header :
    let s := { (site.putOp (.saving { next := 10, reply := { tag := 9, answered := true } })) with
      memory := { PresetMemory.erased with header := sealRecord [0x00] } }
    (after (.presetAccessTimeout 2000 2) s).memory.header = sealRecord [0x00] := by decide +kernel

/-- R177: under BLANK only the first step makes an access. -/
theorem test_blank_makes_one_access :
    let s := { loading 4 with loadSource := .blank }
    (after (.presetAccessTimeout 5 0) s).preset = s.preset ∧
    (after (.presetAccessTimeout 5 0) { loading 0 with loadSource := .blank }).preset.condition = .silent := by decide +kernel

/-- R181: the end of a LOAD clears the marker and ends it DONE. -/
theorem test_load_ends :
    let s := (site.putAnswers { AnswerUnit.reset with marker := true }).putOp (.reloading
      { headerRead := true, todo := [], flags := true, lockClear := true, defaulted := 1, reply := { tag := 9, answered := true } })
    let t := after (.loadPresetStepDone 5) { s with memory := { PresetMemory.erased with flags := sealRecord [0x80] } }
    t.protect.flags = 0x81 ∧ t.answers.marker = false ∧ results t = [.done] ∧ t.preset.op = .idle := by decide +kernel

theorem witness_ImageRoundTrip : alignSite.tables.inRange = true ∧ 1 ≤ 8 ∧ 8 ≤ 8 := by decide +kernel

theorem witness_ProtectedTablesStand :
    let s := { (State.receiving frozenSite 900000) with protect := { flags := 0x80, lock := true }, guard := true }
    s.protectFlag 8 = true ∧ s.protect.lock = true ∧ s.guard = true ∧
      steps (s.putPending [.writeTable (order ([8, 0, 1] ++ SiteEntry.default.bytes))]) = true ∧
      steps (s.putPending [.feedFrameComplete (arrival 918000 (feedFrame 5 [3, 5, 37, 9, 5, 1, 0]))]) = true := by decide +kernel

theorem witness_command_lists : 19 = orderCommands.length ∧ 9 = bareCommands.length := by decide

theorem witness_TablesStayInRange :
    let s := alignSite.putPending [.writeTable (order ([1, 3, 1] ++ (laneEntry 3000 500).bytes))]
    TablesOk s ∧ TitlesOk s ∧ MemoryOk s ∧ ImageOk s ∧ steps s = true := by
  unfold TablesOk TitlesOk MemoryOk ImageOk; decide +kernel

/-- The image's premise met with a valid header and good records. -/
theorem witness_ImageOk :
    let m : PresetMemory := { PresetMemory.erased with
      header := sealRecord [0xA5], tables := PresetMemory.erased.tables.set 7 (sealRecord (8 :: SiteEntry.default.bytes)) }
    ImageOk { site with memory := m } ∧ headerValid m.header = true ∧ tableRecordGood 8 (m.table 8) = true := by
  unfold ImageOk; decide +kernel

theorem witness_FrozenValuesKept :
    let s := frozenSite.putPending [.writeTable (order ([1, 1, 1] ++ { laneEntry 0 0 with zone := 5 }.bytes))]
    s.frozen[1].isSome = true ∧ (s.tables.lane[1].station = 0x5A32 ∧ s.tables.lane[1].zone = 4) ∧ s.preset.op = .idle ∧ steps s = true := by
  decide +kernel

/-- The frozen values agree, so `FrozenOk` holds there. -/
theorem witness_FrozenOk : FrozenOk frozenSite := by
  refine ⟨fun n f h => ?_, fun f h => by simp [frozenSite, site] at h⟩
  have h' : ∀ n : LaneNo, ∀ f ∈ frozenSite.frozen[n], frozenSite.tables.lane[n].station = f.station ∧
      frozenSite.tables.lane[n].zone = f.zone := by decide +kernel
  exact h' n f h

end Sys2Proof.Tests
end

section
/-! PROOF. The instants of a cue (R88, R89). -/

namespace Sys2Proof.Machine

/-! ### The signed difference as a wrapped one (R88) -/

theorem sdiff_eq_wrapped {w : Nat} (a b : BitVec w) :
    sdiff a b =
      if 2 ^ w ≤ 2 * ((a.toNat + 2 ^ w - b.toNat) % 2 ^ w) then
        (((a.toNat + 2 ^ w - b.toNat) % 2 ^ w : Nat) : Int) - (2 ^ w : Nat)
      else ((a.toNat + 2 ^ w - b.toNat) % 2 ^ w : Nat) := by
  have wrapped : (a - b).toNat = (a.toNat + 2 ^ w - b.toNat) % 2 ^ w := by
    rw [BitVec.toNat_sub]
    congr 1
    have := b.isLt
    omega
  rw [sdiff, BitVec.toInt_eq_toNat_cond, wrapped]
  split_ifs <;> omega

/-- The frame difference d of R88. -/
theorem sdiff_feedNo (effective carrier : FeedNo) :
    sdiff effective carrier =
      if 2048 ≤ (effective.toNat + 4096 - carrier.toNat) % 4096 then
        (((effective.toNat + 4096 - carrier.toNat) % 4096 : Nat) : Int) - 4096
      else ((effective.toNat + 4096 - carrier.toNat) % 4096 : Nat) := by
  rw [sdiff_eq_wrapped]
  norm_num only
  split_ifs <;> omega

theorem sdiff_feedNo_bounds (effective carrier : FeedNo) :
    sdiff effective carrier ≤ 2047 ∧ -2048 ≤ sdiff effective carrier := by
  have below : 2 * (effective - carrier).toInt < 4096 := BitVec.two_mul_toInt_lt
  have above : -4096 ≤ 2 * (effective - carrier).toInt := BitVec.le_two_mul_toInt
  unfold sdiff
  omega

/-! ### The two instants of a lane (R89) -/

theorem TransKind.isStart_iff (kind : TransKind) :
    kind.isStart = true ↔ kind = .bulletinStart ∨ kind = .urgentStart := by
  cases kind <;> simp [TransKind.isStart]

theorem lineTarget_eq (e : LaneEntry) (kind : TransKind) (tF : Micros) :
    lineTarget e kind tF = tF + BitVec.ofInt 32
      (if kind = .bulletinStart ∨ kind = .urgentStart then 1000 * ((e.da : Int) - e.dd - e.lead)
      else 1000 * ((e.da : Int) - e.dd + e.trail)) := by
  simp only [lineTarget, TransKind.isStart_iff, micros]
  split_ifs <;> rfl

theorem alignRecord_audio (e : LaneEntry) (l : Lane) (ref : FrameRef) (kind : TransKind) (c : CueMsg) :
    (alignRecord e l ref kind c).audio = audioTime e (feedTime c.carrier c.effective c.syncTime) := rfl

/-- Settles O47: R88's wrapped frame difference is the model's signed one; the instants of R89 are the two equations above. -/
theorem cueTimes : Obligations.CueTimes := by
  refine ⟨fun carrier effective tN => ?_, fun e kind tF => ⟨rfl, lineTarget_eq e kind tF⟩, alignRecord_audio⟩
  intro m d
  have hd : sdiff effective carrier = d := sdiff_feedNo effective carrier
  obtain ⟨upper, lower⟩ := sdiff_feedNo_bounds effective carrier
  rw [hd] at upper lower
  have placed : feedTime carrier effective tN = tN + BitVec.ofInt 32 (d * 20000) :=
    congrArg (fun k : Int => tN + BitVec.ofInt 32 (k * 20000)) hd
  exact ⟨upper, lower, placed⟩

end Sys2Proof.Machine
end

section
/-! PROOF. POLL, READ EVENTS and SET ALERT MASK, and the alerts that a mask opens (R152, R153, R156, R160, R162). -/

namespace Sys2Proof.Machine

/-! ### Orders that pass their checks -/

/-- The checks that CLEAR EVENTS and SET ALERT MASK share (R146). -/
theorem eventSetRefusal_eq_none {args : List Byte} (two : args.length = 2) (members : eventSetOk (halfAt args 0) = true) :
    eventSetRefusal args = none := by
  simp [eventSetRefusal, firstRefusal, refuseLength, two, members]

theorem orderPoll_nil (r : Reply) (s : State) : orderPoll [] r s = s.reply r .done [] := rfl

theorem orderReadEvents_nil (r : Reply) (s : State) :
    orderReadEvents [] r s = s.reply r .done (eventBytes s.answers.latches ++ eventBytes s.answers.mask) := rfl

theorem orderSetAlertMask_accepted {args : List Byte} (accepted : eventSetRefusal args = none) (r : Reply) (s : State) :
    orderSetAlertMask args r s = (s.putAnswers { s.answers with mask := eventSet args }).reply r .done [] := by
  rw [orderSetAlertMask, accepted]
  rfl

/-! ### Event sets -/

theorem Event.number_lt (e : Event) : e.number < 13 := by
  cases e <;> decide

theorem eventSet_getLsbD (args : List Byte) (e : Event) : (eventSet args).getLsbD e.number = (halfAt args 0).getLsbD e.number := by
  simp [eventSet, e.number_lt]

/-! ### What setting a latch does to the queue (R152, R153) -/

theorem State.latch_of_latched {s : State} {e : Event} (set : s.latched e = true) : s.latch e = s := by
  simp [State.latch, set]

/-- A part that answers and has room queues an ALERT exactly for an open latch other than ANSWER_LOST (R152, R153). -/
theorem State.latch_queue_of_clear {s : State} {e : Event} (clear : s.latched e = false) (answers : s.listenOnly = false)
    (room : s.answers.queue.length < 8) :
    (s.latch e).answers.queue = s.answers.queue ++
      (if s.answers.mask.getLsbD e.number && e != .answerLost then
        [{ tag := 0, result := .alert, data := eventBytes (s.answers.latches ||| e.bit), ofRestart := false }] else []) := by
  have answers' (u : AnswerUnit) : (s.putAnswers u).listenOnly = false := answers
  cases alerts : s.answers.mask.getLsbD e.number && e != .answerLost <;>
    simp [State.latch, clear, alerts, State.queueAnswer, answers', AnswerUnit.join, room]

/-- ANSWER_LOST queues no ALERT, whatever the mask (R153). -/
theorem State.latch_answerLost_queue (s : State) : (s.latch .answerLost).answers.queue = s.answers.queue := by
  cases set : s.latched .answerLost
  · simp [State.latch, set]
  · rw [State.latch_of_latched set]

/-! ### The status summary in an answer (R150, R151) -/

/-- The attention flag is bit 0 of the summary's first byte, and stands for any latch set at the insertion. -/
theorem State.answerMessage_attention (s : State) (a : Answer) :
    (byteAt (s.answerMessage a) 5).getLsbD 0 = (s.answers.latches != 0) := by
  have fifth : byteAt (s.answerMessage a) 5 = s.summary1 := rfl
  rw [fifth, State.summary1, BitVec.getLsbD_append]
  simp

end Sys2Proof.Machine

namespace Sys2Proof.Safety

open Machine

/-- Whether an order is taken depends on the answer unit by its queue alone. -/
theorem Taken.putAnswers {s : State} {o : OrderMsg} (h : Taken s o) {u : AnswerUnit} (same : u.queue = s.answers.queue) :
    Taken (s.putAnswers u) o := by
  simpa [Taken, State.listenOnly, same] using h

@[simp] theorem answered_mask (s : State) (o : OrderMsg) (x : Result) (d : List Byte) :
    (answered s o x d).answers.mask = s.answers.mask := by
  unfold answered
  split <;> rfl

theorem answered_of_all {o : OrderMsg} (all : o.target = 255) (s : State) (x : Result) (d : List Byte) : answered s o x d = s :=
  if_pos all

theorem exec_poll_taken {s : State} {o : OrderMsg} (bare : o.args = []) (taken : Taken s o) :
    exec (.poll o) s = .next (answered (s.clockAt o.time) o .done []) := by
  show Host.Outcome.next (s.takeOrder o orderPoll) = _
  rw [taken.run, bare, orderPoll_nil, (taken.clockAt o.time).reply]

theorem exec_readEvents_taken {s : State} {o : OrderMsg} (bare : o.args = []) (taken : Taken s o) :
    exec (.readEvents o) s =
      .next (answered (s.clockAt o.time) o .done (eventBytes s.answers.latches ++ eventBytes s.answers.mask)) := by
  show Host.Outcome.next (s.takeOrder o orderReadEvents) = _
  rw [taken.run, bare, orderReadEvents_nil, (taken.clockAt o.time).reply, State.clockAt_answers]

theorem exec_setAlertMask_taken {s : State} {o : OrderMsg} (accepted : eventSetRefusal o.args = none) (taken : Taken s o) :
    exec (.setAlertMask o) s =
      .next (answered ((s.clockAt o.time).putAnswers { s.answers with mask := eventSet o.args }) o .done []) := by
  show Host.Outcome.next (s.takeOrder o orderSetAlertMask) = _
  have stays : Taken ((s.clockAt o.time).putAnswers { s.answers with mask := eventSet o.args }) o := (taken.clockAt o.time).putAnswers rfl
  rw [taken.run, orderSetAlertMask_accepted accepted, State.clockAt_answers, stays.reply]

/-- Settles O7: an order to 255 is a taken one whose answer is not queued. -/
theorem pollResult : Obligations.PollResult := by
  refine ⟨fun o s bare taken => exec_poll_taken bare taken, fun o s bare all => ?_, fun s tag => rfl⟩
  rw [exec_poll_taken bare (Or.inl all), answered_of_all all]

/-- Settles O20. -/
theorem readEventsResult : Obligations.ReadEventsResult :=
  ⟨fun _ _ bare taken => exec_readEvents_taken bare taken, State.answerMessage_attention⟩

/-- Settles O21: the clauses on later latches hold of any state with that mask, by what setting a latch does. -/
theorem setAlertMaskResult : Obligations.SetAlertMaskResult := by
  intro o s two members taken
  have ran := exec_setAlertMask_taken (eventSetRefusal_eq_none two members) taken
  set t := answered ((s.clockAt o.time).putAnswers { s.answers with mask := eventSet o.args }) o .done []
  have mask : t.answers.mask = eventSet o.args := answered_mask _ _ _ _
  have named (e : Event) : t.answers.mask.getLsbD e.number = (halfAt o.args 0).getLsbD e.number := by
    rw [mask, eventSet_getLsbD]
  refine ⟨t, ran, by rw [mask], named, fun e => State.latch_of_latched, fun e clear answers room notLost => ?_,
    State.latch_answerLost_queue t⟩
  rw [State.latch_queue_of_clear clear answers room, named e]
  simp [notLost, eventBytes]

end Sys2Proof.Safety
end

section
/-! PROOF. The status summary read back field by field (R186). -/

namespace Sys2Proof.Machine

/-! ### Codes (R186) -/

theorem FeedState.code_eq (f : FeedState) :
    f.code = match f with | .absent => 0#2 | .good => 1#2 | .degraded => 2#2 | .lost => 3#2 := by
  cases f <;> rfl

theorem TbMode.code_eq (m : TbMode) :
    m.code = match m with | .stopped => 0#3 | .awaitSync => 1#3 | .priming => 2#3 | .running => 3#3 | .holdover => 4#3 := by
  cases m <;> rfl

theorem topCode_eq (k : Option LevelKind) :
    topCode k = match k with | none => 0#2 | some .regular => 1#2 | some .bulletin => 2#2 | some .urgent => 3#2 := by
  rcases k with _ | _ | _ | _ <;> rfl

/-! ### A field of a concatenation

A field is reached by dropping the fields below it, each by its width; then it is the lowest one. -/

theorem getLsbD_append_of_le {v w i : Nat} (hi : BitVec v) (lo : BitVec w) (above : w ≤ i) :
    (hi ++ lo).getLsbD i = hi.getLsbD (i - w) := by
  rw [BitVec.getLsbD_append, if_neg (by omega)]

theorem getLsbD_zero_append_ofBool {v : Nat} (hi : BitVec v) (b : Bool) : (hi ++ BitVec.ofBool b).getLsbD 0 = b := by
  rw [BitVec.getLsbD_append, if_pos (by decide)]
  exact BitVec.getLsbD_ofBool _ _

/-! ### Byte 1 -/

theorem State.summary1_feed (s : State) : s.summary1.extractLsb' 6 2 = s.monitor.state.code := by
  rw [summary1]
  iterate 3 rw [BitVec.extractLsb'_append_eq_of_le (by decide)]
  exact BitVec.extractLsb'_append_eq_left

theorem State.summary1_timebase (s : State) : s.summary1.extractLsb' 3 3 = s.timebase.mode.code := by
  rw [summary1]
  iterate 3 rw [BitVec.extractLsb'_append_eq_of_le (by decide)]
  exact BitVec.extractLsb'_append_eq_right

theorem State.summary1_marker (s : State) : s.summary1.getLsbD 2 = s.answers.marker := by
  rw [summary1]
  iterate 2 rw [getLsbD_append_of_le _ _ (by decide)]
  exact getLsbD_zero_append_ofBool _ _

theorem State.summary1_presetBusy (s : State) : s.summary1.getLsbD 1 = s.presetBusy := by
  rw [summary1, getLsbD_append_of_le _ _ (by decide)]
  exact getLsbD_zero_append_ofBool _ _

theorem State.summary1_attention (s : State) : s.summary1.getLsbD 0 = (s.answers.latches != 0) :=
  getLsbD_zero_append_ofBool _ _

/-! ### Byte 2 -/

theorem State.summary2_onAir (s : State) (n : LaneNo) : s.summary2.getLsbD (4 + n.val) = (s.lanes[n].mode == .onAir) := by
  rw [summary2]
  iterate 3 rw [getLsbD_append_of_le _ _ (by omega)]
  match n with
  | 0 => exact getLsbD_zero_append_ofBool _ _
  | 1 =>
    rw [getLsbD_append_of_le _ _ (by decide)]
    exact getLsbD_zero_append_ofBool _ _
  | 2 =>
    iterate 2 rw [getLsbD_append_of_le _ _ (by decide)]
    exact getLsbD_zero_append_ofBool _ _
  | 3 =>
    iterate 3 rw [getLsbD_append_of_le _ _ (by decide)]
    exact BitVec.getLsbD_ofBool _ _

theorem State.summary2_guard (s : State) : s.summary2.getLsbD 3 = s.guard := by
  rw [summary2]
  iterate 2 rw [getLsbD_append_of_le _ _ (by decide)]
  exact getLsbD_zero_append_ofBool _ _

theorem State.summary2_lock (s : State) : s.summary2.getLsbD 2 = s.protect.lock := by
  rw [summary2, getLsbD_append_of_le _ _ (by decide)]
  exact getLsbD_zero_append_ofBool _ _

theorem State.summary2_spare (s : State) : s.summary2.extractLsb' 0 2 = 0#2 :=
  BitVec.extractLsb'_append_eq_right

/-! ### Byte 3 -/

theorem State.summary3_top (s : State) (n : LaneNo) :
    s.summary3.extractLsb' (2 * n.val) 2 = topCode (topKind s.lanes[n].stack) := by
  rw [summary3]
  match n with
  | 0 => exact BitVec.extractLsb'_append_eq_right
  | 1 =>
    rw [BitVec.extractLsb'_append_eq_of_le (by decide)]
    exact BitVec.extractLsb'_append_eq_right
  | 2 =>
    iterate 2 rw [BitVec.extractLsb'_append_eq_of_le (by decide)]
    exact BitVec.extractLsb'_append_eq_right
  | 3 =>
    iterate 2 rw [BitVec.extractLsb'_append_eq_of_le (by decide)]
    exact BitVec.extractLsb'_append_eq_left

/-- Settles O26: each field is read back by its own equation, and a coded one by the table of its codes. -/
theorem statusSummaryBits : Obligations.StatusSummaryBits := fun s =>
  ⟨s.summary1_feed.trans (FeedState.code_eq _), s.summary1_timebase.trans (TbMode.code_eq _), s.summary1_marker, s.summary1_presetBusy,
    s.summary1_attention, s.summary2_onAir, s.summary2_guard, s.summary2_lock, s.summary2_spare,
    fun n => (s.summary3_top n).trans (topCode_eq _)⟩

end Sys2Proof.Machine
end

section
/-! PROOF. What a step keeps. A property of the state is kept by every step when it is kept by each of the operations that the commands are made of;
these are grouped by the blocks that they act on, so that a property which does not speak of a block is kept by the whole group at once. -/

namespace Sys2Proof.Machine

/-! ### Every command has a next state -/

theorem exec_total (c : Instr) (s : State) : ∃ t, exec c s = .next t := by
  cases c <;> exact ⟨_, rfl⟩

/-! ### The groups of operations -/

/-- `P` is kept by what the messages of a field and its answers do to the shared state. -/
structure MessageKeep (P : State → Prop) : Prop where
  latch : ∀ {s : State} (e : Event), P s → P (s.latch e)
  queueAnswer : ∀ {s : State} (a : Answer), P s → P (s.queueAnswer a)
  answers : ∀ {s : State} (u : AnswerUnit), u.queue <:+ s.answers.queue → u.lost ≤ s.answers.lost → P s → P (s.putAnswers u)
  recordOutcome : ∀ {s : State} (complete bad : Bool), P s → P (s.recordOutcome complete bad)
  recent : ∀ {s : State} (number : Byte), number ∉ s.recentCues → P s → P (s.putRecentCues (joinRecent s.recentCues number))
  titleZone : ∀ {s : State} (text : List Byte) (z : Zone), text.length ≤ 45 → (∀ c ∈ text, clampChar c = c) → P s →
    P (s.titleZone text.length text z)
  takeRecord : ∀ {s : State} (n : LaneNo) (r : Transition), P s → P (s.takeRecord n r)
  sendRecord : ∀ {s : State} (n : LaneNo) (r : Transition), s.lanes[n].mode = .onAir → P s →
    P (s.modLane n (fun l => { l with records := l.records ++ [r] }))

/-- `P` is kept by the operations of the answer unit, the feed path, the recent-cue list, the title store, and by a record on its way. -/
structure PathKeep (P : State → Prop) : Prop extends MessageKeep P where
  clockAt : ∀ {s : State} (t : Micros), P s → P (s.clockAt t)
  feed : ∀ {s : State} (f : FeedPort), P s → P (s.putFeed f)
  guard : ∀ {s : State} (b : Bool), P s → P (s.putGuard b)
  lostAt : ∀ {s : State} (t : Option Micros), P s → P (s.putMonitor { s.monitor with lostAt := t })
  feedLost : ∀ {s : State}, P s → P s.feedLost
  dropRecord : ∀ {s : State} (n : LaneNo) (i : Nat), P s → P (s.modLane n (fun l => { l with records := l.records.eraseIdx i }))

/-- `P` is kept by these and by the resets. -/
structure SharedKeep (P : State → Prop) : Prop extends PathKeep P where
  hardReset : ∀ {s : State} (env : ResetEnv), P s → P (s.hardReset env)
  restart : ∀ {s : State} (env : ResetEnv), P s → P (s.restart env)

/-- `P` is kept by what the orders do to the lanes and the timebase. -/
structure AirOrderKeep (P : State → Prop) : Prop where
  startAir : ∀ {s : State}, P s → P s.startAir
  stopAir : ∀ {s : State}, P s → P s.stopAir
  switchOn : ∀ {s : State} (v : Byte), P s → P (s.mapNamed v Lane.switchOn)
  switchOff : ∀ {s : State} (v : Byte), P s → P (s.mapNamed v Lane.switchOff)

/-- `P` is kept by the operations on the lanes, the timebase, the SYNC line and the cue lines. -/
structure AirKeep (P : State → Prop) : Prop extends AirOrderKeep P where
  autoLaneOn : ∀ {s : State}, P s → P s.autoLaneOn
  earlyBuild : ∀ {s : State} (order : List LaneNo), P s → P (s.earlyBuild order)
  lineStart : ∀ {s : State} (fire : Option Nat) (order : List LaneNo), P s → P (s.lineStart fire order)
  ceilings : ∀ {s : State} (n : LaneNo), P s →
    P (s.modLane n (fun l => { l with stack := removeCeilings s.lanes[n].lastBuilt s.lanes[n].stack }))
  fireHold : ∀ {s : State}, P s → P s.fireHold
  finalFrameEnd : ∀ {s : State}, P s → P s.finalFrameEnd
  takePulse : ∀ {s : State} (p : Micros), s.watchesSync = true → P s → P (s.takePulse p)
  syncPulseMissed : ∀ {s : State}, P s → P s.syncPulseMissed
  syncLost : ∀ {s : State}, P s → P s.syncLost
  masterPulseStart : ∀ {s : State}, P s → P s.masterPulseStart
  masterPulseEnd : ∀ {s : State}, P s → P s.masterPulseEnd
  triggerArrives : ∀ {s : State} (n : LaneNo), P s → P (s.triggerArrives n)
  triggerDue : ∀ {s : State} (n : LaneNo), P s → P (s.triggerDue n)
  phaseEnd : ∀ {s : State} (n : LaneNo), P s → P (s.phaseEnd n)

/-- `P` is kept by what the orders do to the tables, the protection and the preset controller when they pass their checks. -/
structure TakenKeep (P : State → Prop) : Prop where
  write : ∀ {s : State} (args : List Byte), s.writeRefusal args = none → P s → P (s.storeWrite (WriteArgs.read args))
  protect : ∀ {s : State} (p : Protect), P s → P (s.putProtect p)
  saving : ∀ {s : State} (r : Reply), s.presetBusy = false → P s → P (s.putOp (.saving { next := 0, reply := r }))
  reloading : ∀ {s : State} (v : Reload), s.presetBusy = false → v.headerRead = false → P s → P (s.putOp (.reloading v))
  freezing : ∀ {s : State} (n : LaneNo) (r : Reply), s.presetBusy = false → P s →
    P (s.putOp (.freezing { lane := n, station := s.tables.lane[n].station, zone := s.tables.lane[n].zone, reply := r }))
  idle : ∀ {s : State}, P s → P (s.putOp .idle)

/-- The steps of the preset controller lead from `P` to `Q`. -/
structure ControllerKeep (P Q : State → Prop) : Prop where
  startUpTablePlaced : ∀ {s : State}, P s → Q s.startUpTablePlaced
  freezeRecordRead : ∀ {s : State}, P s → Q s.freezeRecordRead
  saveRecordWritten : ∀ {s : State}, P s → Q s.saveRecordWritten
  loadPresetStepDone : ∀ {s : State}, P s → Q s.loadPresetStepDone
  freezeWriteComplete : ∀ {s : State} (ok : Bool) (n : Nat), P s → Q (s.freezeWriteComplete ok n)
  presetAccessTimeout : ∀ {s : State} (n : Nat), P s → Q (s.presetAccessTimeout n)

/-! ### The shared operations -/

section

variable {P : State → Prop}

theorem PathKeep.clockTo (k : PathKeep P) {s : State} (t : Micros) (h : P s) : P (s.clockTo t) := by
  rcases s.clockTo_cases t with ⟨-, e⟩ | ⟨-, e⟩
  · rw [e]; exact k.clockAt t h
  · rw [e]; exact h

theorem MessageKeep.latchIf (k : MessageKeep P) {s : State} (b : Bool) (e : Event) (h : P s) : P (s.latchIf b e) := by
  cases b
  · exact h
  · exact k.latch e h

theorem MessageKeep.reply (k : MessageKeep P) {s : State} (r : Reply) (x : Result) (d : List Byte) (h : P s) : P (s.reply r x d) := by
  unfold State.reply
  split
  · exact k.queueAnswer _ h
  · exact h

theorem MessageKeep.unlessRefused (k : MessageKeep P) {s effect : State} (r : Reply) (refusal : Option Result) (h : P s)
    (passed : refusal = none → P effect) : P (s.unlessRefused r refusal effect) := by
  cases refusal with
  | none => exact passed rfl
  | some x => exact k.reply r x [] h

theorem PathKeep.recordArrives (k : PathKeep P) {s : State} (n : LaneNo) (i : Nat) (h : P s) : P (s.recordArrives n i) := by
  unfold State.recordArrives
  split
  · exact h
  · exact k.takeRecord _ _ (k.dropRecord _ _ h)

theorem PathKeep.patternSeen (k : PathKeep P) {s : State} (h : P s) : P s.patternSeen := by
  have dropped : P s.dropFrame := by
    unfold State.dropFrame
    split
    · exact k.recordOutcome _ _ (k.feed _ h)
    · exact h
  exact k.feed _ (k.lostAt _ dropped)

theorem PathKeep.lostTimerExpiry (k : PathKeep P) {s : State} (h : P s) : P s.lostTimerExpiry := by
  unfold State.lostTimerExpiry
  split
  · exact h
  · next d _ =>
    refine k.feedLost ?_
    unfold State.dropFrame
    have stopped := k.lostAt none (k.clockTo d h)
    split
    · exact k.recordOutcome _ _ (k.feed _ stopped)
    · exact stopped

theorem PathKeep.frameForward (k : PathKeep P) {s : State} (h : P s) : P s.frameForward := by
  unfold State.frameForward
  split
  · exact h
  · exact k.feed _ (k.clockTo _ h)

theorem SharedKeep.restartDeadline (k : SharedKeep P) {s : State} (env : ResetEnv) (h : P s) : P (s.restartDeadline env) := by
  unfold State.restartDeadline
  split
  · exact h
  · exact k.restart _ (k.clockTo _ h)

/-! ### Orders -/

theorem firstRefusal_eq_none {l : List (Bool × Result)} : firstRefusal l = none ↔ ∀ p ∈ l, p.1 = false := by
  induction l with
  | nil => simp [firstRefusal]
  | cons p l ih => cases h : p.1 <;> simp [firstRefusal, h, ih]

/-- An order that changes the preset controller's work has found it idle. -/
theorem State.presetBusy_of_passed {s : State} {l : List (Bool × Result)} (passed : firstRefusal l = none) (checked : s.refuseBusy ∈ l) :
    s.presetBusy = false := firstRefusal_eq_none.1 passed _ checked

/-- What any order does keeps `P`. -/
def OrdersKeep (P : State → Prop) : Prop :=
  ∀ {code : Nat} {run : List Byte → Reply → State → State}, orderOfCode code = some run →
    ∀ {s : State} (args : List Byte) (r : Reply), P s → P (run args r s)

theorem MessageKeep.orderRestart (k : MessageKeep P) {s : State} (args : List Byte) (r : Reply) (h : P s) : P (orderRestart args r s) := by
  refine k.unlessRefused _ _ h fun _ => ?_
  have pending : P (s.putAnswers { s.answers with
      restartAt := match s.answers.restartAt with
        | some t => some t
        | none => some (s.clock + micros Config.restartMicros) }) := k.answers _ (List.suffix_refl _) le_rfl h
  show P (if r.answered then _ else _)
  split
  · exact k.queueAnswer _ pending
  · exact pending

theorem MessageKeep.orderFreezeLane (k : MessageKeep P) (t : TakenKeep P) {s : State} (args : List Byte) (r : Reply) (h : P s) :
    P (orderFreezeLane args r s) := by
  refine k.unlessRefused _ _ h fun passed => ?_
  have idle : s.presetBusy = false := State.presetBusy_of_passed passed (by simp)
  split
  · unfold State.freezeLane
    split
    · exact k.reply _ _ _ h
    · exact t.freezing _ _ idle h
  · exact h

theorem MessageKeep.orders (k : MessageKeep P) (a : AirOrderKeep P) (t : TakenKeep P) : OrdersKeep P := by
  intro code run found s args r h
  have done {u : State} : P u → P (u.reply r .done []) := k.reply r .done []
  have sameQueue (u : AnswerUnit) (q : u.queue = s.answers.queue) (l : u.lost ≤ s.answers.lost) : P (s.putAnswers u) :=
    k.answers u (q ▸ List.suffix_refl _) l h
  unfold orderOfCode at found
  split at found <;> cases found
  · exact k.unlessRefused _ _ h fun _ => k.reply _ _ _ h
  · exact k.unlessRefused _ _ h fun _ => k.reply _ _ _ h
  · exact k.unlessRefused _ _ h fun passed => done (t.write _ passed h)
  · exact k.unlessRefused _ _ h fun _ => done (t.protect _ h)
  · exact k.unlessRefused _ _ h fun _ => done (t.protect _ h)
  · exact k.unlessRefused _ _ h fun _ => done (t.protect _ h)
  · exact k.unlessRefused _ _ h fun _ => done (t.protect _ h)
  · exact k.orderFreezeLane t args r h
  · exact k.unlessRefused _ _ h fun _ => done (a.switchOn _ h)
  · exact k.unlessRefused _ _ h fun _ => done (a.switchOff _ h)
  · exact k.unlessRefused _ _ h fun _ => done (a.startAir h)
  · exact k.unlessRefused _ _ h fun _ => done (a.stopAir h)
  · exact k.unlessRefused _ _ h fun passed => t.saving _ (State.presetBusy_of_passed passed (by simp)) h
  · exact k.unlessRefused _ _ h fun passed => t.reloading _ (State.presetBusy_of_passed passed (by simp)) rfl h
  · exact k.unlessRefused _ _ h fun _ => k.reply _ _ _ h
  · exact k.unlessRefused _ _ h fun _ => done (sameQueue _ rfl (by unfold AnswerUnit.clear; dsimp only; split <;> omega))
  · exact k.unlessRefused _ _ h fun _ => done (sameQueue _ rfl le_rfl)
  · exact k.unlessRefused _ _ h fun _ => done (sameQueue _ rfl le_rfl)
  · exact k.orderRestart args r h

/-! ### The messages of a field and a complete frame -/

theorem clampChar_idem (c : Byte) : clampChar (clampChar c) = clampChar c := by
  unfold clampChar
  by_cases h : 0x20 ≤ c.toNat ∧ c.toNat ≤ 0x7E
  · rw [if_pos h, if_pos h]
  · rw [if_neg h]; decide

theorem TitleMsg.parse_some {body : List Byte} {m : TitleMsg} (h : TitleMsg.parse body = some m) :
    m.length ≤ 45 ∧ m.text.length = m.length := by
  unfold TitleMsg.parse at h
  dsimp only at h
  split at h
  · next c =>
    cases h
    simp only [List.length_drop]
    omega
  · cases h

theorem MessageKeep.takeTitle (k : MessageKeep P) {s : State} {m : TitleMsg} (short : m.length ≤ 45) (whole : m.text.length = m.length) (h : P s) :
    P (s.takeTitle m) := by
  have zone {u : State} (z : Zone) (hu : P u) : P (u.titleZone m.length (m.text.map clampChar) z) := by
    have := k.titleZone (m.text.map clampChar) z (by simpa [whole] using short) (by simp [clampChar_idem]) hu
    simpa [whole] using this
  unfold State.takeTitle
  induction zonesOf m.mask generalizing s with
  | nil => exact h
  | cons z rest ih => exact ih (zone z h)

theorem MessageKeep.takeCue (k : MessageKeep P) (c : Chosen) (m : CueMsg) (h : P c.state) : P (c.takeCue m).state := by
  have lane {kind : TransKind} {c : Chosen} (n : LaneNo) (h : P c.state) : P (c.cueLane kind m n).state := by
    unfold Chosen.cueLane
    split
    · split
      · next admitted =>
        have onAir : c.state.lanes[n].mode = .onAir := by
          simp only [State.admits, Bool.and_eq_true, beq_iff_eq] at admitted
          exact admitted.1.1
        unfold Chosen.handOver
        dsimp only
        split
        · exact k.takeRecord _ _ (k.latchIf _ _ h)
        · exact k.sendRecord _ _ (by simpa using onAir) (k.latchIf _ _ h)
      · exact h
    · exact h
  unfold Chosen.takeCue
  split
  · exact h
  · next kind _ =>
    split
    · exact h
    · next fresh =>
      have joined : P (c.state.putRecentCues (joinRecent c.state.recentCues m.number)) := k.recent _ (by simpa using fresh) h
      exact List.foldlRecOn (motive := fun c : Chosen => P c.state) laneNumbers _ joined fun _ h n _ => lane n h

theorem MessageKeep.takeMessage (k : MessageKeep P) (o : OrdersKeep P) {carrier : FeedNo} {tN : Micros} {kind : Byte} {body : List Byte}
    {c c' : Chosen} {consumed : Bool} (taken : takeMessage carrier tN kind body c = some (c', consumed)) (h : P c.state) : P c'.state := by
  unfold Machine.takeMessage at taken
  split at taken
  · obtain ⟨m, -, e⟩ := Option.map_eq_some_iff.1 taken
    cases e
    exact k.takeCue c m h
  split at taken
  · obtain ⟨m, parsed, e⟩ := Option.map_eq_some_iff.1 taken
    cases e
    obtain ⟨short, whole⟩ := TitleMsg.parse_some parsed
    exact k.takeTitle short whole h
  split at taken
  · split at taken
    · cases taken
    split at taken
    · cases taken
      exact h
    · cases taken
      unfold State.handOrder
      split
      · next found => exact o found _ _ h
      · exact k.reply _ _ _ h
  split at taken
  · cases taken
    exact h
  · cases taken

theorem MessageKeep.parseFrom (k : MessageKeep P) (o : OrdersKeep P) (carrier : FeedNo) (tN : Micros) (fuel p : Nat) (q : Parse)
    (h : P q.part.state) : P (parseFrom carrier tN fuel p q).part.state := by
  induction fuel generalizing p q with
  | zero => exact h
  | succ fuel ih =>
    unfold Machine.parseFrom
    split
    · exact h
    dsimp only
    split
    · exact h
    split
    · exact h
    split
    · exact h
    · next taken =>
      split
      · exact ih _ _ (k.takeMessage o taken h)
      · exact ih _ _ (k.takeMessage o taken h)

theorem MessageKeep.outcomeAt (k : MessageKeep P) {s : State} (a : Arrival) (here : OutcomePoint) (h : P s) : P (s.outcomeAt a here) := by
  unfold State.outcomeAt
  split
  · exact k.recordOutcome _ _ h
  · exact h

theorem MessageKeep.insertAnswers (k : MessageKeep P) (restart : ∀ {s : State} (env : ResetEnv), P s → P (s.restart env))
    {s : State} (a : Arrival) (q : Parse) (h : P s) : P (s.insertAnswers a q).1 := by
  unfold State.insertAnswers
  split
  · exact k.outcomeAt _ _ h
  · have taken (n : Nat) : P ((s.dropAnswers n).outcomeAt a .afterInsertion) :=
      k.outcomeAt a .afterInsertion (k.answers { s.answers with queue := s.answers.queue.drop n } (List.drop_suffix _ _) le_rfl h)
    dsimp only
    split
    · exact restart _ (taken _)
    · exact taken _

/-- What the parse of a good frame leaves is kept by what comes after it. -/
theorem MessageKeep.afterParse (k : MessageKeep P) (restart : ∀ {s : State} (env : ResetEnv), P s → P (s.restart env)) {s : State} (a : Arrival)
    (tN : Micros) (parsed : P ((s.outcomeAt a .beforeParse).parseField a tN).part.state) : P (s.goodFrame a tN).1 := by
  refine k.outcomeAt _ _ (k.insertAnswers restart _ _ ?_)
  unfold State.deadlineWithin
  split
  · exact restart _ (k.outcomeAt _ _ parsed)
  · exact k.outcomeAt _ _ parsed

theorem MessageKeep.goodFrame (k : MessageKeep P) (restart : ∀ {s : State} (env : ResetEnv), P s → P (s.restart env))
    (o : OrdersKeep P) {s : State} (a : Arrival) (tN : Micros) (h : P s) : P (s.goodFrame a tN).1 :=
  k.afterParse restart a tN (k.parseFrom o _ _ _ _ _ (k.outcomeAt _ _ h))

theorem SharedKeep.frameComplete (k : SharedKeep P) (o : OrdersKeep P) {s : State} (a : Arrival) (h : P s) : P (s.frameComplete a) := by
  have complete {u : State} (tN : Micros) (hu : P u) : P (u.completeFrame a tN) := by
    have begun : P (if a.frame.endsInPattern then (u.putFeed { u.feed with inProgress := none }).restartLostTimer
        else u.putFeed { u.feed with inProgress := none }) := by
      split
      · exact k.lostAt _ (k.feed _ hu)
      · exact k.feed _ hu
    unfold State.completeFrame
    refine k.feed _ ?_
    split
    · exact k.goodFrame k.restart o _ _ begun
    · exact k.recordOutcome _ _ begun
  unfold State.frameComplete
  split
  · exact h
  · split
    · exact complete _ (k.clockAt _ h)
    · exact h

/-! ### The commands, and a step -/

theorem PathKeep.takeOrder (k : PathKeep P) {run : List Byte → Reply → State → State}
    (runs : ∀ {s : State} (args : List Byte) (r : Reply), P s → P (run args r s)) {s : State} (o : OrderMsg) (h : P s) :
    P (s.takeOrder o run) := by
  unfold State.takeOrder
  dsimp only
  split
  · exact k.clockAt _ h
  · exact runs _ _ (k.clockAt _ h)

theorem PathKeep.startUpLoadEnd (k : PathKeep P) (a : AirKeep P) (t : TakenKeep P) {s : State} (airFirst : Bool) (h : P s) :
    P (s.startUpLoadEnd airFirst) := by
  unfold State.startUpLoadEnd
  split
  · split
    · have ended : P ((s.putOp .idle).putAnswers { s.answers with marker := false }) := k.answers _ (List.suffix_refl _) le_rfl (t.idle h)
      dsimp only
      split
      · unfold State.autostart
        split
        · exact a.autoLaneOn (a.startAir ended)
        · exact a.startAir (a.autoLaneOn ended)
      · exact ended
    · exact h
  · exact h

/-- A command leads from `P` to `Q`, which differ in what the preset controller's steps keep alone. -/
theorem exec_leads {Q : State → Prop} (weaken : ∀ {s}, P s → Q s) (k : SharedKeep P) (a : AirKeep P) (t : TakenKeep P) (p : ControllerKeep P Q)
    {c : Instr} {s s' : State} (ran : exec c s = .next s') (h : P s) : Q s' := by
  have order {run : List Byte → Reply → State → State} (code : Nat) (found : orderOfCode code = some run) (o : OrderMsg) :
      Q (s.takeOrder o run) := weaken (k.takeOrder (fun args r h => k.orders a.toAirOrderKeep t found args r h) o h)
  cases c <;> cases ran
  case hardReset env => exact weaken (k.hardReset env h)
  case restartDeadline env => exact weaken (k.restartDeadline env h)
  case syncPatternSeen time => exact weaken (k.patternSeen (k.clockAt time h))
  case feedFrameComplete arrival => exact weaken (k.frameComplete (k.orders a.toAirOrderKeep t) arrival h)
  case frameForward => exact weaken (k.frameForward h)
  case lostTimerExpiry => exact weaken (k.lostTimerExpiry h)
  case recordArrives n i => exact weaken (k.recordArrives n i h)
  case poll o => exact order 0x01 rfl o
  case readTable o => exact order 0x02 rfl o
  case writeTable o => exact order 0x03 rfl o
  case protectTables o => exact order 0x04 rfl o
  case unprotectTables o => exact order 0x05 rfl o
  case setProtectLock o => exact order 0x06 rfl o
  case clearProtectLock o => exact order 0x07 rfl o
  case freezeLane o => exact order 0x08 rfl o
  case laneOn o => exact order 0x09 rfl o
  case laneOff o => exact order 0x0A rfl o
  case startAir o => exact order 0x0B rfl o
  case stopAir o => exact order 0x0C rfl o
  case savePreset o => exact order 0x0D rfl o
  case loadPreset o => exact order 0x0E rfl o
  case readEvents o => exact order 0x0F rfl o
  case clearEvents o => exact order 0x10 rfl o
  case setAlertMask o => exact order 0x11 rfl o
  case setMarker o => exact order 0x12 rfl o
  case restart o => exact order 0x13 rfl o
  case presetAccessTimeout time n => exact p.presetAccessTimeout n (k.clockAt time h)
  case startUpTablePlaced time => exact p.startUpTablePlaced (k.clockAt time h)
  case freezeRecordRead time => exact p.freezeRecordRead (k.clockAt time h)
  case startUpLoadEnd time airFirst => exact weaken (k.startUpLoadEnd a t airFirst (k.clockAt time h))
  case saveRecordWritten time => exact p.saveRecordWritten (k.clockAt time h)
  case loadPresetStepDone time => exact p.loadPresetStepDone (k.clockAt time h)
  case freezeWriteComplete time ok n => exact p.freezeWriteComplete ok n (k.clockAt time h)
  case earlyBuild order => exact weaken (a.earlyBuild order h)
  case lineStart fire order => exact weaken (a.lineStart fire order h)
  case ceilingEnd n => exact weaken (k.latchIf _ _ (a.ceilings n h))
  case holdFires => exact weaken (a.fireHold h)
  case finalFrameEnd => exact weaken (a.finalFrameEnd h)
  case syncPulse time =>
    refine weaken ?_
    unfold State.syncPulse
    dsimp only
    split
    · next watches => exact a.takePulse _ watches (k.clockAt time h)
    · exact k.clockAt time h
  case syncPulseMissed => exact weaken (a.syncPulseMissed h)
  case syncLost => exact weaken (a.syncLost h)
  case masterPulseStart => exact weaken (a.masterPulseStart h)
  case masterPulseEnd => exact weaken (a.masterPulseEnd h)
  case triggerArrives n => exact weaken (a.triggerArrives n h)
  case triggerDue n => exact weaken (a.triggerDue n h)
  case phaseEnd n => exact weaken (a.phaseEnd n h)
  case guardLineChange time b => exact weaken (k.guard b (k.clockAt time h))

/-- A step is a command on the part with its queue or its count of choices moved on, or it changes nothing. -/
theorem step_cases {s t : State} (stepped : step s = .next t) :
    (∃ c q, exec c (s.putPending q) = .next t) ∨ (∃ c n, exec c (s.putChoices n) = .next t) ∨ t = s := by
  unfold step stepAlone at stepped
  split at stepped
  · exact .inl ⟨_, _, stepped⟩
  · split at stepped
    · exact .inr (.inl ⟨_, _, stepped⟩)
    · cases stepped
      exact .inr (.inr rfl)

/-- A step keeps what every command keeps and what does not speak of the command queue and the count of choices. -/
theorem step_leads {Q : State → Prop} (weaken : ∀ {s}, P s → Q s) (pending : ∀ {s} (q), P s → P (s.putPending q))
    (choices : ∀ {s} (n), P s → P (s.putChoices n)) (commands : ∀ {c s s'}, exec c s = .next s' → P s → Q s') {s t : State}
    (stepped : step s = .next t) (h : P s) : Q t := by
  rcases step_cases stepped with ⟨c, q, ran⟩ | ⟨c, n, ran⟩ | rfl
  · exact commands ran (pending q h)
  · exact commands ran (choices n h)
  · exact weaken h

end

end Sys2Proof.Machine
end

section
/-! PROOF. Properties that do not speak of a block are kept by all the operations on that block. -/

namespace Sys2Proof.Machine

section

variable {P : State → Prop}

/-! ### Lanes, timebase and SYNC line -/

/-- `P` does not speak of the lanes, the timebase and the SYNC line. -/
structure AirFree (P : State → Prop) : Prop where
  lanes : ∀ {s : State} (v : Vector Lane 4), P s → P (s.putLanes v)
  timebase : ∀ {s : State} (b : Timebase), P s → P (s.putTimebase b)
  sync : ∀ {s : State} (y : SyncLine), P s → P (s.putSync y)

/-- The hold of a cycle start and of a firing keeps `P`. -/
structure HoldKeep (P : State → Prop) : Prop where
  cycleStart : ∀ {s : State}, P s → P (s.putHold (s.hold.cycleStart s.tables.site.holdLimit))
  fire : ∀ {s : State}, s.hold.due = true → P s → P (s.putHold { s.hold with fired := true, due := false })

theorem AirFree.lane (f : AirFree P) {s : State} (n : LaneNo) (l : Lane) (h : P s) : P (s.putLane n l) := f.lanes _ h

theorem AirFree.fireHold (f : AirFree P) (d : HoldKeep P) {s : State} (h : P s) : P s.fireHold := by
  unfold State.fireHold
  split
  · next due => exact f.lanes _ (d.fire due h)
  · exact h

theorem MessageKeep.latchAll (k : MessageKeep P) {s : State} (l : List Event) (h : P s) : P (s.latchAll l) :=
  List.foldlRecOn (motive := P) l State.latch h fun _ h e _ => k.latch e h

theorem AirFree.laneBuild (f : AirFree P) (k : MessageKeep P) {s : State} (x : LineFrame) (n : LaneNo) (h : P s) : P (s.laneBuild x n) := by
  unfold State.laneBuild
  split
  · exact h
  · split
    · exact f.lane _ _ h
    · exact h
  · exact k.latchAll _ (f.lane _ _ h)

theorem AirFree.laneLineStart (f : AirFree P) (k : MessageKeep P) {s : State} (x : LineFrame) (n : LaneNo) (h : P s) :
    P (s.laneLineStart x n) := by
  unfold State.laneLineStart
  split
  · exact h
  · split
    · exact f.laneBuild k _ _ (f.lane _ _ h)
    · exact f.laneBuild k _ _ h
  · split
    · exact f.laneBuild k _ _ (f.lane _ _ h)
    · exact f.lane _ _ h

theorem AirFree.earlyBuildAt (f : AirFree P) (k : MessageKeep P) {s : State} (start : Micros) (order : List LaneNo) (h : P s) :
    P (s.earlyBuildAt start order) :=
  List.foldlRecOn (motive := P) _ _ (f.timebase _ h) fun _ h n _ => f.laneBuild k _ n h

theorem AirFree.enterStopped (f : AirFree P) {s : State} (h : P s) : P s.enterStopped := f.sync _ (f.timebase _ h)

theorem AirFree.endFinalFrame (f : AirFree P) {s : State} (h : P s) : P s.endFinalFrame := by
  have ended : P ((s.mapLanes (Lane.finalEnd s.timebase.stopPending)).putTimebase { s.timebase with onLine := none, lastOfGrid := false }) :=
    f.timebase _ (f.lanes _ h)
  unfold State.endFinalFrame
  dsimp only
  split
  · exact f.enterStopped ended
  · exact ended

theorem AirFree.cycleStart (f : AirFree P) (d : HoldKeep P) {s : State} (x : LineFrame) (h : P s) : P (s.cycleStart x) := by
  have master {u : State} (hu : P u) : P (u.masterCycleStart x.start) := by
    unfold State.masterCycleStart
    split
    · refine f.timebase _ ?_
      split
      · exact f.sync _ hu
      · exact hu
    · exact hu
  unfold State.cycleStart
  split
  · exact master (f.lanes _ (d.cycleStart h))
  · exact h

theorem AirFree.lanesAtLineStart (f : AirFree P) (k : PathKeep P) (d : HoldKeep P) {s : State} (x : LineFrame) (fire : Option Nat)
    (order : List LaneNo) (h : P s) : P (s.lanesAtLineStart x fire order) := by
  have all (l : List LaneNo) {u : State} (hu : P u) : P (l.foldl (fun s n => s.laneLineStart x n) u) :=
    List.foldlRecOn (motive := P) l _ hu fun _ h n _ => f.laneLineStart k.toMessageKeep _ n h
  unfold State.lanesAtLineStart
  split
  · exact all _ h
  · exact all _ (f.fireHold d (all _ h))

theorem AirFree.lineStart (f : AirFree P) (k : PathKeep P) (d : HoldKeep P) {s : State} (fire : Option Nat) (order : List LaneNo) (h : P s) :
    P (s.lineStart fire order) := by
  unfold State.lineStart
  split
  · exact h
  · refine f.lanesAtLineStart k d _ _ _ (f.timebase _ (f.cycleStart d _ (f.timebase _ ?_)))
    split
    · exact f.endFinalFrame (k.clockTo _ h)
    · exact k.clockTo _ h

theorem AirFree.takePulse (f : AirFree P) (k : PathKeep P) {s : State} (p : Micros) (h : P s) : P (s.takePulse p) := by
  unfold State.takePulse
  split
  · exact h
  · exact f.timebase _ h
  · split
    · split
      · exact f.timebase _ h
      · exact f.timebase _ h
    · exact f.timebase _ h
  · split
    · exact f.timebase _ h
    · exact f.timebase _ (f.lanes _ (k.latch _ h))

theorem AirFree.syncPulseMissed (f : AirFree P) (k : PathKeep P) {s : State} (h : P s) : P s.syncPulseMissed := by
  unfold State.syncPulseMissed
  split
  · split
    · exact h
    · dsimp only
      split
      · exact f.timebase _ (k.clockTo _ h)
      · exact f.timebase _ (k.clockTo _ h)
      · exact f.timebase _ (k.clockTo _ h)
      · exact k.clockTo _ h
  · exact h

theorem AirFree.triggerArrives (f : AirFree P) (k : PathKeep P) {s : State} (n : LaneNo) (h : P s) : P (s.triggerArrives n) := by
  unfold State.triggerArrives
  split
  · exact h
  · dsimp only
    split
    · exact k.latchIf _ _ (f.lane _ _ (f.lane _ _ h))
    · exact f.lane _ _ h

theorem AirFree.startAir (f : AirFree P) (k : MessageKeep P) {s : State} (h : P s) : P s.startAir := by
  unfold State.startAir
  split
  · split
    · exact f.timebase _ h
    · exact f.earlyBuildAt k _ _ (f.timebase _ h)
  · exact h

theorem AirFree.stopAir (f : AirFree P) {s : State} (h : P s) : P s.stopAir := by
  have lanes : P (s.mapLanes Lane.stopAir) := f.lanes _ h
  unfold State.stopAir State.stopTimebase
  split
  · exact lanes
  · exact f.enterStopped lanes
  · exact f.enterStopped lanes
  · split
    · exact lanes
    · split
      · exact f.timebase _ lanes
      · exact f.enterStopped lanes

/-- What does not speak of the lanes, the timebase and the SYNC line is kept by the operations on them. -/
theorem AirFree.keep (f : AirFree P) (k : SharedKeep P) (d : HoldKeep P) : AirKeep P where
  startAir := f.startAir k.toPathKeep.toMessageKeep
  stopAir := f.stopAir
  switchOn _ := f.lanes _
  switchOff _ := f.lanes _
  autoLaneOn := f.lanes _
  earlyBuild order h := by
    unfold State.earlyBuild
    split
    · exact h
    · exact f.earlyBuildAt k.toPathKeep.toMessageKeep _ _ (k.clockTo _ h)
  lineStart := f.lineStart k.toPathKeep d
  ceilings n := f.lane n _
  fireHold := f.fireHold d
  finalFrameEnd h := by
    unfold State.finalFrameEnd
    split
    · split
      · exact f.endFinalFrame (k.clockTo _ h)
      · exact h
    · exact h
  takePulse p _ := f.takePulse k.toPathKeep p
  syncPulseMissed := f.syncPulseMissed k.toPathKeep
  syncLost h := by
    unfold State.syncLost
    split
    · exact k.latch _ (f.timebase _ h)
    · exact h
  masterPulseStart h := by
    unfold State.masterPulseStart
    split
    · exact h
    · exact f.sync _ (k.clockTo _ h)
  masterPulseEnd h := by
    unfold State.masterPulseEnd
    split
    · exact h
    · exact f.sync _ (k.clockTo _ h)
  triggerArrives := f.triggerArrives k.toPathKeep
  triggerDue n h := by
    unfold State.triggerDue
    split
    · exact h
    · exact f.lane _ _ (k.clockTo _ h)
  phaseEnd n h := by
    unfold State.phaseEnd
    split
    · exact h
    · exact f.lane _ _ (k.clockTo _ h)

theorem AirFree.takeRecord (f : AirFree P) (latch : ∀ {s : State} (e : Event), P s → P (s.latch e)) {s : State} (n : LaneNo) (r : Transition)
    (h : P s) : P (s.takeRecord n r) := by
  unfold State.takeRecord
  split
  · have late : P (s.latchIf (atOrBefore r.target s.lanes[n].lastBuilt) .cueLate) := by
      unfold State.latchIf
      split
      · exact latch _ h
      · exact h
    dsimp only
    split
    · exact f.lane _ _ late
    · exact latch _ late
  · exact h

theorem AirFree.titleZone (f : AirFree P) (titles : ∀ {s : State} (v : Vector TitleRecord 16), P s → P (s.putTitles v)) {s : State} (length : Nat)
    (text : List Byte) (z : Zone) (h : P s) : P (s.titleZone length text z) := by
  unfold State.titleZone
  split
  · exact h
  · exact f.lanes _ (titles _ h)

/-! ### Feed monitor and hold -/

/-- What is kept when an outcome joins the window or begins a new one, when the feed state changes and when a latch is set is kept by an outcome. -/
theorem recordOutcome_keeps (record : ∀ {s : State} (bad : Bool), P s → P (s.putMonitor (s.monitor.record bad)))
    (fresh : ∀ {s : State} (bad : Bool), P s → P (s.putMonitor (s.monitor.clearWindow.record bad)))
    (state : ∀ {s : State} (x : FeedState), P s → P (s.putFeedState x)) (latch : ∀ {s : State} (e : Event), P s → P (s.latch e)) {s : State}
    (complete bad : Bool) (h : P s) : P (s.recordOutcome complete bad) := by
  have high {u : State} (hu : P u) : P u.highCheck := by
    unfold State.highCheck
    split
    · exact latch _ (state _ hu)
    · exact hu
  have low {u : State} (hu : P u) : P u.lowCheck := by
    unfold State.lowCheck
    split
    · exact latch _ (state _ hu)
    · exact hu
  unfold State.recordOutcome
  split
  · exact high (record _ h)
  · exact low (record _ h)
  · split
    · exact high (state _ (fresh _ h))
    · exact record _ h
  · split
    · exact high (latch _ (state _ (fresh _ h)))
    · exact record _ h

theorem feedLost_keeps (state : ∀ {s : State} (x : FeedState), P s → P (s.putFeedState x))
    (latch : ∀ {s : State} (e : Event), P s → P (s.latch e)) {s : State} (h : P s) : P s.feedLost := by
  unfold State.feedLost
  split
  · exact latch _ (state _ h)
  · exact latch _ (state _ h)
  · exact h
  · exact h

theorem AirFree.syncHold (f : AirFree P) (hold : ∀ {s : State} (d : Hold), P s → P (s.putHold d)) {s : State} (h : P s) : P s.syncHold := by
  obtain ⟨d, v, e⟩ := s.syncHold_eq
  rw [e]
  exact f.lanes _ (hold _ h)

/-- `P` does not speak of the feed monitor, the hold and what a latch changes. -/
structure FeedFree (P : State → Prop) : Prop where
  monitor : ∀ {s : State} (m : Monitor), P s → P (s.putMonitor m)
  hold : ∀ {s : State} (d : Hold), P s → P (s.putHold d)
  latch : ∀ {s : State} (e : Event), P s → P (s.latch e)

theorem FeedFree.holdKeep (m : FeedFree P) : HoldKeep P := ⟨m.hold _, fun _ => m.hold _⟩

theorem FeedFree.putFeedState (m : FeedFree P) (f : AirFree P) {s : State} (x : FeedState) (h : P s) : P (s.putFeedState x) :=
  f.syncHold m.hold (m.monitor _ h)

theorem FeedFree.recordOutcome (m : FeedFree P) (f : AirFree P) {s : State} (complete bad : Bool) : P s → P (s.recordOutcome complete bad) :=
  recordOutcome_keeps (P := P) (fun _ => m.monitor _) (fun _ => m.monitor _) (m.putFeedState f) m.latch complete bad

theorem FeedFree.feedLost (m : FeedFree P) (f : AirFree P) {s : State} : P s → P s.feedLost :=
  feedLost_keeps (P := P) (m.putFeedState f) m.latch

theorem AirFree.changeTables (f : AirFree P) (hold : ∀ {s : State} (d : Hold), P s → P (s.putHold d))
    (tables : ∀ {s : State} (T : Tables), P s → P (s.putTables T)) {s : State} (T : Tables) (h : P s) : P (s.changeTables T) := by
  obtain ⟨v, d, e⟩ := s.changeTables_eq T
  rw [e]
  exact hold _ (f.lanes _ (tables _ h))

/-! ### Tables, protection and preset controller -/

/-- `P` does not speak of the protection, the freeze, the preset controller and its memory, and is kept by a change of the tables. -/
structure PresetFree (P : State → Prop) : Prop where
  changeTables : ∀ {s : State} (T : Tables), P s → P (s.changeTables T)
  protect : ∀ {s : State} (p : Protect), P s → P (s.putProtect p)
  frozen : ∀ {s : State} (v : Vector (Option Frozen) 4), P s → P (s.putFrozen v)
  preset : ∀ {s : State} (p : Preset), P s → P (s.putPreset p)
  memory : ∀ {s : State} (m : PresetMemory), P s → P (s.putMemory m)

/-- What does not speak of the preset controller is kept by what the orders do to it. -/
theorem PresetFree.taken (f : PresetFree P) : TakenKeep P where
  write _ _ := f.changeTables _
  protect := f.protect
  saving _ _ := f.preset _
  reloading _ _ _ := f.preset _
  freezing _ _ _ := f.preset _
  idle := f.preset _

theorem PresetFree.placeRecord (f : PresetFree P) {s : State} (t : Nat) (l : List Byte) (h : P s) : P (s.placeRecord t l) := by
  unfold State.placeRecord
  split
  · exact f.changeTables _ h
  · exact f.changeTables _ h

theorem PresetFree.startUpTablePlaced (f : PresetFree P) (k : PathKeep P) {s : State} (h : P s) : P s.startUpTablePlaced := by
  have judged (p : StartUp) : P (s.judgeImage p).1 := by
    unfold State.judgeImage
    split
    · exact h
    · exact k.latchIf _ _ h
  have table {u : State} (p : StartUp) (image : Bool) (t : Nat) (hu : P u) : P (u.startUpTable p image t) := by
    have latched (b : Bool) : P (u.latchIf b .presetFault) := k.latchIf _ _ hu
    refine f.preset _ ?_
    split
    · exact f.placeRecord _ _ (latched _)
    · exact f.changeTables _ (latched _)
  have flags {u : State} (p : StartUp) (image : Bool) (hu : P u) : P (u.startUpFlags p image) :=
    f.preset _ (f.preset _ (f.protect _ (k.latchIf _ _ hu)))
  unfold State.startUpTablePlaced
  split
  · split
    · exact table _ _ _ (judged _)
    · split
      · exact flags _ _ (judged _)
      · exact h
  · exact h

theorem PresetFree.freezeRecordRead (f : PresetFree P) (k : PathKeep P) {s : State} (h : P s) : P s.freezeRecordRead := by
  unfold State.freezeRecordRead
  split
  · split
    · refine f.preset _ (f.preset _ ?_)
      unfold State.readFreeze
      dsimp only
      split
      · exact h
      · split
        · exact f.frozen _ (f.changeTables _ h)
        · exact k.latch _ h
    · exact h
  · exact h

theorem PresetFree.saveRecordWritten (f : PresetFree P) (k : PathKeep P) {s : State} (h : P s) : P s.saveRecordWritten := by
  unfold State.saveRecordWritten
  split
  · dsimp only
    split
    · exact f.preset _ (f.preset _ (f.memory _ h))
    · exact k.reply _ _ _ (f.preset _ (f.preset _ (f.memory _ h)))
  · exact h

theorem PresetFree.loadPresetStepDone (f : PresetFree P) (k : PathKeep P) {s : State} (h : P s) : P s.loadPresetStepDone := by
  have done {u : State} (r : Reply) (hu : P u) : P (u.reloadDone r) :=
    k.reply _ _ _ (k.answers _ (List.suffix_refl _) le_rfl (f.preset _ hu))
  have next {u : State} (v : Reload) (hu : P u) : P (u.reloadNext v) := by
    unfold State.reloadNext
    split
    · exact done _ hu
    · exact f.preset _ hu
  unfold State.loadPresetStepDone
  split
  · have answering : P (s.putCondition .answering) := f.preset _ h
    dsimp only
    split
    · split
      · exact next _ (f.protect _ (f.placeRecord _ _ (k.latchIf _ _ answering)))
      · split
        · exact next _ (f.protect _ (k.latchIf _ _ answering))
        · exact done _ answering
    · split
      · exact next _ answering
      · exact k.reply _ _ _ (f.preset _ (k.latch _ answering))
  · exact h

theorem PresetFree.freezeWriteComplete (f : PresetFree P) (k : PathKeep P) {s : State} (ok : Bool) (n : Nat) (h : P s) :
    P (s.freezeWriteComplete ok n) := by
  unfold State.freezeWriteComplete
  split
  · split
    · exact k.reply _ _ _ (f.preset _ (f.preset _ (f.frozen _ (f.memory _ h))))
    · exact k.reply _ _ _ (f.preset _ (f.memory _ h))
  · exact h

theorem PresetFree.presetAccessTimeout (f : PresetFree P) (k : PathKeep P) {s : State} (n : Nat) (h : P s) : P (s.presetAccessTimeout n) := by
  have silent (p : StartUp) : P (s.startUpSilent p) := by
    unfold State.startUpSilent
    split
    · refine f.preset _ ?_
      split
      · exact List.foldlRecOn (motive := P) _ _ (k.latch _ h) fun _ h _ _ => f.changeTables _ h
      · exact k.latch _ h
    · exact h
  unfold State.presetAccessTimeout
  split
  · exact h
  · exact silent _
  · exact k.reply _ _ _ (f.preset _ (f.preset _ (f.memory _ h)))
  · exact k.reply _ _ _ (k.answers _ (List.suffix_refl _) le_rfl (f.preset _ (f.preset _ (k.latch _ h))))
  · exact k.reply _ _ _ (f.preset _ (f.preset _ (f.memory _ h)))

/-- What does not speak of the preset controller is kept by its steps. -/
theorem PresetFree.controller (f : PresetFree P) (k : SharedKeep P) : ControllerKeep P P where
  startUpTablePlaced := f.startUpTablePlaced k.toPathKeep
  freezeRecordRead := f.freezeRecordRead k.toPathKeep
  saveRecordWritten := f.saveRecordWritten k.toPathKeep
  loadPresetStepDone := f.loadPresetStepDone k.toPathKeep
  freezeWriteComplete := f.freezeWriteComplete k.toPathKeep
  presetAccessTimeout := f.presetAccessTimeout k.toPathKeep

end

end Sys2Proof.Machine
end

section
/-! PROOF. The command queue and the count of choices, the recent-cue list, the answer unit and the quality window: each is in the hands of a few
operations, and all others leave it. -/

namespace Sys2Proof.Safety

open Machine

/-! ### Commands leave the queue of commands and the count of choices -/

/-- The model's own fields stand as they were. -/
def QueueIs (q : List Instr) (n : Nat) (s : State) : Prop := s.pending = q ∧ s.choices = n

section

variable {q : List Instr} {n : Nat}

theorem QueueIs.airFree : AirFree (QueueIs q n) := ⟨fun _ h => h, fun _ h => h, fun _ h => h⟩

theorem QueueIs.feedFree : FeedFree (QueueIs q n) := ⟨fun _ h => h, fun _ h => h, fun _ h => by simpa [QueueIs] using h⟩

theorem QueueIs.shared : SharedKeep (QueueIs q n) where
  hardReset _ h := h
  restart _ h := h
  clockAt _ h := h
  latch := QueueIs.feedFree.latch
  queueAnswer _ h := by simpa [QueueIs] using h
  answers _ _ _ h := h
  feed _ h := h
  guard _ h := h
  lostAt _ h := h
  recordOutcome := QueueIs.feedFree.recordOutcome QueueIs.airFree
  feedLost := QueueIs.feedFree.feedLost QueueIs.airFree
  recent _ _ h := h
  titleZone text z _ _ := QueueIs.airFree.titleZone (fun _ h => h) _ text z
  takeRecord := QueueIs.airFree.takeRecord QueueIs.feedFree.latch
  sendRecord _ _ _ h := h
  dropRecord _ _ h := h

theorem QueueIs.presetFree : PresetFree (QueueIs q n) where
  changeTables := QueueIs.airFree.changeTables QueueIs.feedFree.hold fun _ h => h
  protect _ h := h
  frozen _ h := h
  preset _ h := h
  memory _ h := h

/-- Settles O2. -/
theorem execKeepsQueue : Obligations.ExecKeepsQueue := by
  intro c s
  obtain ⟨t, ran⟩ := exec_total c s
  have kept : QueueIs s.pending s.choices t :=
    exec_leads (fun h => h) QueueIs.shared (QueueIs.airFree.keep QueueIs.shared QueueIs.feedFree.holdKeep) QueueIs.presetFree.taken
      (QueueIs.presetFree.controller QueueIs.shared) ran ⟨rfl, rfl⟩
  exact ⟨t, ran, kept.1, kept.2⟩

end

/-! ### The recent-cue list (R82) -/

theorem joinRecent_length {l : List Byte} (h : l.length ≤ 32) (n : Byte) : (joinRecent l n).length ≤ 32 := by
  unfold joinRecent
  split
  · simp; omega
  · simp; omega

theorem joinRecent_nodup {l : List Byte} (h : l.Nodup) {n : Byte} (fresh : n ∉ l) : (joinRecent l n).Nodup := by
  have joined {k : List Byte} (part : k.Sublist l) : (k ++ [n]).Nodup := by
    simpa using List.Nodup.concat (fun m => fresh (part.subset m)) (h.sublist part)
  unfold joinRecent
  split
  · exact joined (List.Sublist.refl l)
  · exact joined (List.drop_sublist 1 l)

theorem RecentOk.airFree : AirFree RecentOk := ⟨fun _ h => h, fun _ h => h, fun _ h => h⟩

theorem RecentOk.feedFree : FeedFree RecentOk := ⟨fun _ h => h, fun _ h => h, fun _ h => by simpa [RecentOk] using h⟩

theorem RecentOk.shared : SharedKeep RecentOk where
  hardReset _ _ := ⟨Nat.zero_le _, List.nodup_nil⟩
  restart _ _ := ⟨Nat.zero_le _, List.nodup_nil⟩
  clockAt _ h := h
  latch := RecentOk.feedFree.latch
  queueAnswer _ h := by simpa [RecentOk] using h
  answers _ _ _ h := h
  feed _ h := h
  guard _ h := h
  lostAt _ h := h
  recordOutcome := RecentOk.feedFree.recordOutcome RecentOk.airFree
  feedLost := RecentOk.feedFree.feedLost RecentOk.airFree
  recent n fresh h := ⟨joinRecent_length h.1 n, joinRecent_nodup h.2 fresh⟩
  titleZone text z _ _ := RecentOk.airFree.titleZone (fun _ h => h) _ text z
  takeRecord := RecentOk.airFree.takeRecord RecentOk.feedFree.latch
  sendRecord _ _ _ h := h
  dropRecord _ _ h := h

theorem RecentOk.presetFree : PresetFree RecentOk where
  changeTables := RecentOk.airFree.changeTables RecentOk.feedFree.hold fun _ h => h
  protect _ h := h
  frozen _ h := h
  preset _ h := h
  memory _ h := h

/-- Settles O46: a number joins the list by `joinRecent` alone, and only when it is not there. -/
theorem recentCuesKept : Obligations.RecentCuesKept := fun _ _ h stepped =>
  step_leads (fun h => h) (fun _ h => h) (fun _ h => h)
    (exec_leads (fun h => h) RecentOk.shared (RecentOk.airFree.keep RecentOk.shared RecentOk.feedFree.holdKeep)
      RecentOk.presetFree.taken (RecentOk.presetFree.controller RecentOk.shared)) stepped h

/-! ### The answer unit (R145, R149) -/

/-- A property of the answer unit, where the part is in listen-only or not. -/
def UnitIs (Q : Bool → AnswerUnit → Prop) (s : State) : Prop := Q s.listenOnly s.answers

/-- A property of the answer unit that holds after a reset, and is kept by an answer that joins outside listen-only and by any change that leaves of
the queue an end and raises no count. -/
structure UnitKeep (Q : Bool → AnswerUnit → Prop) : Prop where
  reset : ∀ b, Q b AnswerUnit.reset
  join : ∀ {u : AnswerUnit} (a : Answer), Q false u → Q false (u.join a)
  trim : ∀ {b : Bool} {u v : AnswerUnit}, v.queue <:+ u.queue → v.lost ≤ u.lost → Q b u → Q b v

section

variable {Q : Bool → AnswerUnit → Prop}

theorem UnitIs.airFree : AirFree (UnitIs Q) := ⟨fun _ h => h, fun _ h => h, fun _ h => h⟩

theorem UnitKeep.queueAnswer (k : UnitKeep Q) {s : State} (a : Answer) (h : UnitIs Q s) : UnitIs Q (s.queueAnswer a) := by
  unfold State.queueAnswer
  split
  · exact h
  · next answers =>
    have heard : s.listenOnly = false := by simpa using answers
    have h' : Q s.listenOnly s.answers := h
    show Q s.listenOnly (s.answers.join a)
    rw [heard] at h' ⊢
    exact k.join a h'

theorem UnitKeep.feedFree (k : UnitKeep Q) : FeedFree (UnitIs Q) where
  monitor _ h := h
  hold _ h := h
  latch {s} e h := by
    have set : UnitIs Q (s.putAnswers { s.answers with latches := s.answers.latches ||| e.bit }) :=
      k.trim (u := s.answers) (List.suffix_refl _) le_rfl h
    unfold State.latch
    dsimp only
    split
    · exact h
    · split
      · exact k.queueAnswer _ set
      · exact set

theorem UnitKeep.shared (k : UnitKeep Q) : SharedKeep (UnitIs Q) where
  hardReset _ _ := k.reset _
  restart _ _ := k.reset _
  clockAt _ h := h
  latch := k.feedFree.latch
  queueAnswer := k.queueAnswer
  answers _ queue lost h := k.trim queue lost h
  feed _ h := h
  guard _ h := h
  lostAt _ h := h
  recordOutcome := k.feedFree.recordOutcome UnitIs.airFree
  feedLost := k.feedFree.feedLost UnitIs.airFree
  recent _ _ h := h
  titleZone text z _ _ := UnitIs.airFree.titleZone (fun _ h => h) _ text z
  takeRecord := UnitIs.airFree.takeRecord k.feedFree.latch
  sendRecord _ _ _ h := h
  dropRecord _ _ h := h

theorem UnitKeep.presetFree (k : UnitKeep Q) : PresetFree (UnitIs Q) where
  changeTables := UnitIs.airFree.changeTables k.feedFree.hold fun _ h => h
  protect _ h := h
  frozen _ h := h
  preset _ h := h
  memory _ h := h

theorem UnitKeep.step (k : UnitKeep Q) {s t : State} (stepped : step s = .next t) (h : UnitIs Q s) : UnitIs Q t :=
  step_leads (fun h => h) (fun _ h => h) (fun _ h => h)
    (exec_leads (fun h => h) k.shared (UnitIs.airFree.keep k.shared k.feedFree.holdKeep) k.presetFree.taken (k.presetFree.controller k.shared))
    stepped h

end

/-- Settles O24: an answer joins a queue with room alone, and the count saturates. -/
theorem answersBounded : Obligations.AnswersBounded := by
  have bounded : UnitKeep (fun _ u => u.queue.length ≤ 8 ∧ u.lost ≤ 255) :=
    { reset := fun _ => by decide
      join := fun {u} a ⟨queue, lost⟩ => u.join_bounds a queue lost
      trim := fun queue lost ⟨hq, hl⟩ => ⟨queue.length_le.trans hq, lost.trans hl⟩ }
  exact fun _ _ h stepped => bounded.step stepped h

/-- Settles O25: no answer joins in listen-only, and a reset that leads into it empties the queue. -/
theorem listenOnlySilent : Obligations.ListenOnlySilent := by
  have silent : UnitKeep (fun listen u => listen = true → u.queue = [] ∧ u.lost = 0) :=
    { reset := fun _ _ => ⟨rfl, rfl⟩
      join := fun _ _ listen => nomatch listen
      trim := fun queue lost h listen => by
        obtain ⟨empty, none⟩ := h listen
        rw [empty] at queue
        exact ⟨List.suffix_nil.1 queue, by omega⟩ }
  exact fun _ _ h stepped => silent.step stepped h

/-! ### The quality window (R140) -/

theorem windowOk_record {m : Monitor} (h : m.window.length ≤ 50 ∧ m.bad = m.window.count true) (bad : Bool) :
    (m.record bad).window.length ≤ 50 ∧ (m.record bad).bad = (m.record bad).window.count true := by
  obtain ⟨short, counted⟩ := h
  have room : m.makeRoom.window.length < 50 ∧ m.makeRoom.bad = m.makeRoom.window.count true := by
    unfold Monitor.makeRoom
    split
    · next short => exact ⟨short, counted⟩
    · next full =>
      cases e : m.window with
      | nil => simp [e] at full
      | cons oldest rest => cases oldest <;> simp_all
  cases bad <;> simp [Monitor.record, room.2] <;> omega

theorem WindowOk.airFree : AirFree WindowOk := ⟨fun _ h => h, fun _ h => h, fun _ h => h⟩

theorem WindowOk.putFeedState {s : State} (x : FeedState) (h : WindowOk s) : WindowOk (s.putFeedState x) := by
  simpa [WindowOk, State.putFeedState] using h

theorem WindowOk.latch {s : State} (e : Event) (h : WindowOk s) : WindowOk (s.latch e) := by simpa [WindowOk] using h

theorem WindowOk.shared : SharedKeep WindowOk where
  hardReset _ _ := ⟨Nat.zero_le _, rfl⟩
  restart _ h := h
  clockAt _ h := h
  latch := WindowOk.latch
  queueAnswer _ h := by simpa [WindowOk] using h
  answers _ _ _ h := h
  feed _ h := h
  guard _ h := h
  lostAt _ h := h
  recordOutcome := recordOutcome_keeps (P := WindowOk) (fun bad h => windowOk_record h bad)
    (fun bad _ => windowOk_record ⟨Nat.zero_le _, rfl⟩ bad) WindowOk.putFeedState WindowOk.latch
  feedLost := feedLost_keeps (P := WindowOk) WindowOk.putFeedState WindowOk.latch
  recent _ _ h := h
  titleZone text z _ _ := WindowOk.airFree.titleZone (fun _ h => h) _ text z
  takeRecord := WindowOk.airFree.takeRecord WindowOk.latch
  sendRecord _ _ _ h := h
  dropRecord _ _ h := h

theorem WindowOk.presetFree : PresetFree WindowOk where
  changeTables := WindowOk.airFree.changeTables (fun _ h => h) fun _ h => h
  protect _ h := h
  frozen _ h := h
  preset _ h := h
  memory _ h := h

/-- Settles O28: an outcome that joins a full window takes the oldest one's place, in the count too. -/
theorem windowCountsBad : Obligations.WindowCountsBad := fun _ _ h stepped =>
  step_leads (fun h => h) (fun _ h => h) (fun _ h => h)
    (exec_leads (fun h => h) WindowOk.shared (WindowOk.airFree.keep WindowOk.shared ⟨fun h => h, fun _ h => h⟩) WindowOk.presetFree.taken
      (WindowOk.presetFree.controller WindowOk.shared)) stepped h

/-! ### The hold episode (R70) -/

/-- Outside an episode nothing is counted, fired or due. -/
def settled (h : Hold) : Prop := h.episode = false → h.count = 0 ∧ h.fired = false ∧ h.due = false

theorem settled_none : settled Hold.none := fun _ => ⟨rfl, rfl, rfl⟩

theorem settled_of_episode {h : Hold} (e : h.episode = true) : settled h := fun e' => by simp [e] at e'

/-- Bringing the episode into line gives the hold that the report asks for, where outside an episode nothing was counted or fired. -/
theorem holdOk_syncHold {s : State} (h : settled s.hold) : HoldOk s.syncHold := by
  refine ⟨by simpa [State.holdover] using s.syncHold_episode, ?_⟩
  show settled s.syncHold.hold
  unfold State.syncHold
  split
  · exact settled_of_episode rfl
  · split
    · exact settled_none
    · exact h

theorem HoldOk.airFree : AirFree HoldOk := ⟨fun _ h => h, fun _ h => h, fun _ h => h⟩

theorem HoldOk.latch {s : State} (e : Event) (h : HoldOk s) : HoldOk (s.latch e) := by simpa [HoldOk, State.holdover] using h

theorem Monitor.record_state (m : Monitor) (bad : Bool) : (m.record bad).state = m.state := by
  unfold Monitor.record Monitor.makeRoom
  split <;> rfl

theorem HoldOk.putMonitor {s : State} {m : Monitor} (same : m.state = s.monitor.state) (h : HoldOk s) : HoldOk (s.putMonitor m) := by
  simpa [HoldOk, State.holdover, same] using h

theorem HoldOk.putFeedState {s : State} (x : FeedState) (h : HoldOk s) : HoldOk (s.putFeedState x) := holdOk_syncHold h.2

theorem HoldOk.changeTables {s : State} (T : Tables) (h : HoldOk s) : HoldOk (s.changeTables T) := holdOk_syncHold h.2

theorem HoldOk.restart {s : State} (env : ResetEnv) (_ : HoldOk s) : HoldOk (s.restart env) := by
  have report : (s.restart env).holdover = s.holdover := rfl
  have hold : (s.restart env).hold = s.restartHold := rfl
  rw [HoldOk, report, hold, State.restartHold]
  cases s.holdover
  · exact ⟨rfl, settled_none⟩
  · exact ⟨rfl, settled_of_episode rfl⟩

theorem HoldOk.holdKeep : HoldKeep HoldOk where
  cycleStart {s} h := by
    refine ⟨?_, ?_⟩
    · exact Eq.trans (by simp only [State.putHold_hold, Hold.cycleStart]; split <;> rfl) h.1
    · intro outside
      have same : s.hold.episode = false := by
        simp only [State.putHold_hold, Hold.cycleStart] at outside
        split at outside <;> exact outside
      simpa [Hold.cycleStart, same] using h.2 same
  fire {s} due h := by
    refine ⟨h.1, settled_of_episode ?_⟩
    show s.hold.episode = true
    by_contra outside
    have := (h.2 (by simpa using outside)).2.2
    simp [due] at this

theorem HoldOk.shared : SharedKeep HoldOk where
  hardReset _ _ := ⟨rfl, settled_of_episode rfl⟩
  restart := HoldOk.restart
  clockAt _ h := h
  latch := HoldOk.latch
  queueAnswer _ h := by simpa [HoldOk, State.holdover] using h
  answers _ _ _ h := h
  feed _ h := h
  guard _ h := h
  lostAt _ h := h
  recordOutcome := recordOutcome_keeps (P := HoldOk) (fun _ h => HoldOk.putMonitor (Monitor.record_state _ _) h)
    (fun _ h => HoldOk.putMonitor (Monitor.record_state _ _) h) HoldOk.putFeedState HoldOk.latch
  feedLost := feedLost_keeps (P := HoldOk) HoldOk.putFeedState HoldOk.latch
  recent _ _ h := h
  titleZone text z _ _ := HoldOk.airFree.titleZone (fun _ h => h) _ text z
  takeRecord := HoldOk.airFree.takeRecord HoldOk.latch
  sendRecord _ _ _ h := h
  dropRecord _ _ h := h

theorem HoldOk.presetFree : PresetFree HoldOk where
  changeTables := HoldOk.changeTables
  protect _ h := h
  frozen _ h := h
  preset _ h := h
  memory _ h := h

/-- Settles O35: every change of the report brings the episode into line, and a cycle start counts within an episode alone. -/
theorem holdFollowsReport : Obligations.HoldFollowsReport := fun _ _ h stepped =>
  step_leads (fun h => h) (fun _ h => h) (fun _ h => h)
    (exec_leads (fun h => h) HoldOk.shared (HoldOk.airFree.keep HoldOk.shared HoldOk.holdKeep) HoldOk.presetFree.taken
      (HoldOk.presetFree.controller HoldOk.shared)) stepped h

end Sys2Proof.Safety
end

section
/-! PROOF. What the operations on a lane do to its fields: the scheduler's, the bulletin unit's and the frame builder's. -/

namespace Sys2Proof.Machine

/-! ### One lane of the state -/

@[simp] theorem State.mapLanes_lanes (s : State) (f : Lane → Lane) : (s.mapLanes f).lanes = s.lanes.map f := rfl

@[simp] theorem State.modLane_lanes (s : State) (n : LaneNo) (f : Lane → Lane) : (s.modLane n f).lanes = s.lanes.set n (f s.lanes[n]) := rfl

theorem State.mapLanes_lane (s : State) (f : Lane → Lane) (n : LaneNo) : (s.mapLanes f).lanes[n] = f s.lanes[n] := by
  simp

theorem State.putLane_lane (s : State) (n m : LaneNo) (l : Lane) : (s.putLane n l).lanes[m] = if m = n then l else s.lanes[m] := by
  by_cases e : m = n
  · subst e
    simp
  · have e' : n.val ≠ m.val := fun h => e (Fin.ext h.symm)
    simp [e, e']

theorem State.modLane_lane (s : State) (n m : LaneNo) (f : Lane → Lane) :
    (s.modLane n f).lanes[m] = if m = n then f s.lanes[m] else s.lanes[m] := by
  by_cases e : m = n
  · subst e
    rw [State.modLane_self, if_pos rfl]
  · rw [State.modLane_other s n m f e, if_neg e]

theorem State.mapNamed_lane (s : State) (v : Byte) (f : Lane → Lane) (n : LaneNo) :
    (s.mapNamed v f).lanes[n] = if laneNamed v n then f s.lanes[n] else s.lanes[n] := by
  simp [State.mapNamed]

theorem State.autoLaneOn_lane (s : State) (n : LaneNo) :
    s.autoLaneOn.lanes[n] = if s.tables.lane[n].onAtStart && !s.unsetLane n then s.lanes[n].switchOn else s.lanes[n] := by
  simp [State.autoLaneOn]

theorem State.cueCycleStart_lane (s : State) (t : Micros) (n : LaneNo) :
    (s.cueCycleStart t).lanes[n] = { s.lanes[n] with cue := s.lanes[n].cue.cycleStart s.tables.cueLines[n] t } := by
  simp [State.cueCycleStart]

theorem State.fireHold_lane (s : State) (n : LaneNo) : s.fireHold.lanes[n] = s.lanes[n].heldBy s.hold.due := by
  unfold State.fireHold
  cases h : s.hold.due <;> simp [Lane.heldBy]

theorem State.titleZone_lane (s : State) (length : Nat) (text : List Byte) (z : Zone) (n : LaneNo) :
    (s.titleZone length text z).lanes[n] =
      if s.titles[z].identical length text then s.lanes[n] else s.lanes[n].titleChanged s.tables.lane[n].zone z := by
  unfold State.titleZone
  split
  · rfl
  · simp

/-! ### The scheduler (R24 to R35) -/

/-- Two stacks hold levels of the same kinds, entered and limited alike. -/
def sameLevels (a b : List Level) : Prop := a.map (fun v => (v.kind, v.life)) = b.map (fun v => (v.kind, v.life))

/-- `m` is the lane `l` with its scheduler moved on: of the stack the cursors alone have changed, the insertion queue has lost some of its oldest
requests, and a service in progress is that of a request. -/
structure Scheduled (l m : Lane) : Prop where
  frame : m = { l with stack := m.stack, segs := m.segs, queue := m.queue, serving := m.serving }
  levels : sameLevels m.stack l.stack
  queue : m.queue <:+ l.queue
  serving : (l.serving.isSome = true → l.queue ≠ []) → m.serving.isSome = true → m.queue ≠ []

theorem Scheduled.refl (l : Lane) : Scheduled l l := ⟨rfl, rfl, List.suffix_refl _, id⟩

theorem Scheduled.trans {l m k : Lane} (h : Scheduled l m) (h' : Scheduled m k) : Scheduled l k where
  frame := h'.frame.trans
    (congrArg (fun z : Lane => { z with stack := k.stack, segs := k.segs, queue := k.queue, serving := k.serving }) h.frame)
  levels := h'.levels.trans h.levels
  queue := h'.queue.trans h.queue
  serving := h'.serving ∘ h.serving

theorem Lane.putTopCursor_of_append {l : Lane} {below : List Level} {top : Level} (h : l.stack = below ++ [top]) (c : Cursor) :
    l.putTopCursor c = { l with stack := below ++ [{ top with cursor := c }] } := by
  simp [Lane.putTopCursor, h]

theorem Lane.putTopCursor_scheduled (l : Lane) (c : Cursor) : Scheduled l (l.putTopCursor c) := by
  rcases List.eq_nil_or_concat l.stack with empty | ⟨below, top, h⟩
  · have same : l.putTopCursor c = l := by simp [Lane.putTopCursor, empty]
    rw [same]
    exact .refl l
  · rw [Lane.putTopCursor_of_append (h.trans (List.concat_eq_append ..))]
    exact ⟨rfl, by simp [sameLevels, h], List.suffix_refl _, id⟩

theorem Store.serve_scheduled (x : Store) (l : Lane) (z : Zone) (sent : Nat) (h : l.queue ≠ []) : Scheduled l (x.serve l z sent).2 := by
  unfold Store.serve
  dsimp only
  split
  · exact ⟨rfl, rfl, List.tail_suffix _, fun _ e => by simp at e⟩
  · exact ⟨rfl, rfl, List.suffix_refl _, fun _ _ => h⟩

theorem Store.offer_scheduled (x : Store) (l : Lane) : Scheduled l (x.offer l).2 := by
  unfold Store.offer
  split
  · exact ⟨rfl, rfl, List.nil_suffix, fun _ e => by simp at e⟩
  · next z rest found =>
    have begun : Scheduled l { l with queue := z :: rest, serving := some 0, segs := l.segs.put (.title z) 0 } :=
      ⟨rfl, rfl, found ▸ List.dropWhile_suffix _, fun _ _ => by simp⟩
    exact begun.trans (x.serve_scheduled _ z 0 (by simp))

theorem Store.insertionStage_scheduled (x : Store) (l : Lane) (progress : Nat) : Scheduled l (x.insertionStage l progress).2 := by
  have offered (m : Lane) : Scheduled m (if progress = 0 then x.offer m else (none, m)).2 := by
    split
    · exact x.offer_scheduled m
    · exact .refl m
  unfold Store.insertionStage
  split
  · next sent z rest serving queue =>
    split
    · have closed : Scheduled l { l with queue := rest, serving := none } :=
        ⟨rfl, rfl, queue ▸ List.suffix_cons z rest, fun _ e => by simp at e⟩
      exact closed.trans (offered _)
    · exact x.serve_scheduled l z sent (by simp [queue])
  · exact offered l

theorem Store.sendFromList_scheduled (x : Store) (l : Lane) (k : LevelKind) (c : Cursor) : Scheduled l (x.sendFromList l k c).2 := by
  have cursor (c' : Cursor) (segs : SegCursors) : Scheduled (l.putTopCursor c') { l.putTopCursor c' with segs := segs } :=
    ⟨rfl, rfl, List.suffix_refl _, id⟩
  exact (l.putTopCursor_scheduled _).trans (cursor _ _)

theorem Store.select_scheduled (x : Store) (l : Lane) : Scheduled l (x.select l).2 := by
  have idle (m : Lane) : Scheduled m { m with serving := none } := ⟨rfl, rfl, List.suffix_refl _, fun _ e => by simp at e⟩
  unfold Store.select
  split
  · exact .refl l
  · next top _ =>
    have checked := l.putTopCursor_scheduled (x.lengthCheck top.kind top.cursor)
    dsimp only
    split
    · have stage := x.insertionStage_scheduled (l.putTopCursor (x.lengthCheck top.kind top.cursor)) (x.lengthCheck top.kind top.cursor).progress
      split
      · next e =>
        rw [e] at stage
        exact checked.trans stage
      · next e =>
        rw [e] at stage
        exact (checked.trans stage).trans (x.sendFromList_scheduled _ _ _)
    · exact (checked.trans (idle _)).trans (x.sendFromList_scheduled _ _ _)

/-! ### The level stack (R57, R62 to R72) -/

theorem levelOk_regular {v : Level} (ok : Safety.levelOk v = true) (h : v.kind = .regular) : v.life = none := by
  cases e : v.life with
  | none => rfl
  | some life => simp [Safety.levelOk, h, e] at ok

/-- The four shapes, level by level. -/
theorem stackShape_iff (stack : List Level) :
    Safety.stackShape stack = true ↔ ∃ r rest, stack = r :: rest ∧ r.kind = .regular ∧
      (rest = [] ∨ (∃ b, rest = [b] ∧ b.kind = .bulletin) ∨ (∃ u, rest = [u] ∧ u.kind = .urgent) ∨
        ∃ b u, rest = [b, u] ∧ b.kind = .bulletin ∧ u.kind = .urgent) := by
  unfold Safety.stackShape
  constructor
  · intro h
    split at h
    · next e => simp only [List.map_eq_cons_iff, List.map_eq_nil_iff] at e; grind
    · next e => simp only [List.map_eq_cons_iff, List.map_eq_nil_iff] at e; grind
    · next e => simp only [List.map_eq_cons_iff, List.map_eq_nil_iff] at e; grind
    · next e => simp only [List.map_eq_cons_iff, List.map_eq_nil_iff] at e; grind
    · simp at h
  · rintro ⟨r, rest, rfl, hr, rfl | ⟨b, rfl, hb⟩ | ⟨u, rfl, hu⟩ | ⟨b, u, rfl, hb, hu⟩⟩ <;> simp [*]

/-- Removing levels other than REGULAR leaves one of the four shapes. -/
theorem stackShape_filter {stack : List Level} {p : Level → Bool} (h : Safety.stackShape stack = true)
    (regular : ∀ v ∈ stack, v.kind = .regular → p v = true) : Safety.stackShape (stack.filter p) = true := by
  obtain ⟨r, rest, rfl, hr, shape⟩ := (stackShape_iff stack).1 h
  have kept : p r = true := regular r (by simp) hr
  rw [List.filter_cons_of_pos kept]
  refine (stackShape_iff _).2 ⟨r, _, rfl, hr, ?_⟩
  rcases shape with rfl | ⟨b, rfl, hb⟩ | ⟨u, rfl, hu⟩ | ⟨b, u, rfl, hb, hu⟩
  · simp
  · cases e : p b <;> simp [e, hb]
  · cases e : p u <;> simp [e, hu]
  · cases e : p b <;> cases e' : p u <;> simp [e, e', hb, hu]

theorem stackShape_congr {a b : List Level} (h : sameLevels a b) : Safety.stackShape a = Safety.stackShape b := by
  have kinds : a.map Level.kind = b.map Level.kind := by
    have := congrArg (List.map Prod.fst) h
    simpa [Function.comp_def] using this
  unfold Safety.stackShape
  rw [kinds]

theorem levelOk_congr {v w : Level} (kind : v.kind = w.kind) (life : v.life = w.life) : Safety.levelOk v = Safety.levelOk w := by
  unfold Safety.levelOk
  rw [kind, life]

theorem sameLevels_all {a b : List Level} (h : sameLevels a b) : a.all Safety.levelOk = b.all Safety.levelOk := by
  induction a generalizing b with
  | nil =>
    cases b with
    | nil => rfl
    | cons w b => simp [sameLevels] at h
  | cons v a ih =>
    cases b with
    | nil => simp [sameLevels] at h
    | cons w b =>
      simp only [sameLevels, List.map_cons, List.cons.injEq, Prod.mk.injEq] at h
      obtain ⟨⟨kind, life⟩, rest⟩ := h
      rw [List.all_cons, List.all_cons, levelOk_congr kind life, ih rest]

/-- A stack of one of the four shapes whose levels have their kind's form. -/
def stackOk (stack : List Level) : Prop := Safety.stackShape stack = true ∧ stack.all Safety.levelOk = true

theorem stackOk_congr {a b : List Level} (h : sameLevels a b) (ok : stackOk b) : stackOk a :=
  ⟨(stackShape_congr h).trans ok.1, (sameLevels_all h).trans ok.2⟩

theorem stackOk_regular : stackOk [Level.regular] := ⟨rfl, rfl⟩

theorem stackOk_filter {stack : List Level} {p : Level → Bool} (ok : stackOk stack)
    (regular : ∀ v ∈ stack, v.kind = .regular → v.life = none → p v = true) : stackOk (stack.filter p) := by
  have levels : ∀ v ∈ stack, Safety.levelOk v = true := List.all_eq_true.1 ok.2
  refine ⟨stackShape_filter ok.1 fun v m e => regular v m e (levelOk_regular (levels v m) e), List.all_eq_true.2 fun v m => ?_⟩
  exact levels v (List.mem_of_mem_filter m)

theorem stackOk_removeKind {stack : List Level} (ok : stackOk stack) {k : LevelKind} (other : k ≠ .regular) : stackOk (removeKind stack k) :=
  stackOk_filter ok fun v _ e _ => by simpa [e] using other.symm

theorem stackOk_removeCeilings {stack : List Level} (ok : stackOk stack) (k : AirNo) : stackOk (removeCeilings k stack) :=
  stackOk_filter ok fun v _ _ e => by simp [Level.atCeiling, e]

theorem stackOk_removeHeld {stack : List Level} (ok : stackOk stack) (k : AirNo) : stackOk (removeHeld k stack) :=
  stackOk_filter ok fun v _ _ e => by simp [Level.enteredBefore, e]

/-! ### Steps 1 to 4 of a build (R60 to R76) -/

/-- A transition changes of a lane its stack and its sequence number alone. -/
theorem Store.applyTransition_frame (x : Store) (k : AirNo) (l : Lane) (r : Transition) :
    (x.applyTransition k l r).1 =
      { l with stack := (x.applyTransition k l r).1.stack, sequence := (x.applyTransition k l r).1.sequence } := by
  unfold Store.applyTransition
  split <;> split <;> rfl

/-- A transition keeps the shapes of a stack and the forms of its levels, under ceilings in range. -/
theorem Store.applyTransition_stackOk (x : Store) (k : AirNo) {l : Lane} (r : Transition) (entry : x.entry.inRange = true) (ok : stackOk l.stack) :
    stackOk (x.applyTransition k l r).1.stack := by
  obtain ⟨bulletin, urgent⟩ : (1 ≤ x.entry.bulletinCeiling ∧ x.entry.bulletinCeiling ≤ 1023) ∧
      (1 ≤ x.entry.urgentCeiling ∧ x.entry.urgentCeiling ≤ 1023) := by
    simp only [LaneEntry.inRange, Bool.and_eq_true, decide_eq_true_eq] at entry
    omega
  obtain ⟨v, rest, e, hv, shape⟩ := (stackShape_iff _).1 ok.1
  obtain ⟨-, levels⟩ := ok
  have entered {kind : LevelKind} {c : Nat} (hk : kind ≠ .regular) (hc : 1 ≤ c ∧ c ≤ 1023) : Safety.levelOk (Level.enter kind k c) = true := by
    cases kind <;> simp_all [Safety.levelOk, Level.enter]
  unfold Store.applyTransition
  split <;> split
  · exact ⟨(stackShape_iff _).2 ⟨v, rest, e, hv, shape⟩, levels⟩
  · next absent =>
    refine ⟨(stackShape_iff _).2 ?_, ?_⟩
    · rcases shape with rfl | ⟨b, rfl, hb⟩ | ⟨u, rfl, hu⟩ | ⟨b, u, rfl, hb, hu⟩
      · exact ⟨v, [Level.enter .bulletin k x.entry.bulletinCeiling], by simp [insertBulletin, e], hv, .inr (.inl ⟨_, rfl, rfl⟩)⟩
      · simp [holds, e, hb] at absent
      · exact ⟨v, [Level.enter .bulletin k x.entry.bulletinCeiling, u], by simp [insertBulletin, e], hv, .inr (.inr (.inr ⟨_, _, rfl, rfl, hu⟩))⟩
      · simp [holds, e, hb] at absent
    · rw [e] at levels
      simp [insertBulletin, e, entered (kind := .bulletin) (by decide) bulletin] at levels ⊢
      exact levels
  · exact ⟨(stackShape_iff _).2 ⟨v, rest, e, hv, shape⟩, levels⟩
  · next absent =>
    refine ⟨(stackShape_iff _).2 ?_, ?_⟩
    · rcases shape with rfl | ⟨b, rfl, hb⟩ | ⟨u, rfl, hu⟩ | ⟨b, u, rfl, hb, hu⟩
      · exact ⟨v, [Level.enter .urgent k x.entry.urgentCeiling], by simp [e], hv, .inr (.inr (.inl ⟨_, rfl, rfl⟩))⟩
      · exact ⟨v, [b, Level.enter .urgent k x.entry.urgentCeiling], by simp [e], hv, .inr (.inr (.inr ⟨_, _, rfl, hb, rfl⟩))⟩
      · simp [holds, e, hu] at absent
      · simp [holds, e, hu] at absent
    · rw [List.all_append, levels]
      simp [entered (kind := .urgent) (by decide) urgent]
  · exact stackOk_removeKind ⟨(stackShape_iff _).2 ⟨v, rest, e, hv, shape⟩, levels⟩ (by decide)
  · exact ⟨(stackShape_iff _).2 ⟨v, rest, e, hv, shape⟩, levels⟩
  · exact stackOk_removeKind ⟨(stackShape_iff _).2 ⟨v, rest, e, hv, shape⟩, levels⟩ (by decide)
  · exact ⟨(stackShape_iff _).2 ⟨v, rest, e, hv, shape⟩, levels⟩

/-- Step 1 of a build changes of a lane its schedule, its stack and its sequence number alone. -/
theorem Store.applyDue_frame (x : Store) (k : AirNo) (l : Lane) :
    (x.applyDue k l).lane = { l with
      schedule := l.schedule.drop (dueRecords k l.schedule).length, stack := (x.applyDue k l).lane.stack
      sequence := (x.applyDue k l).lane.sequence } := by
  unfold Store.applyDue
  refine List.foldlRecOn (motive := fun a : Applied => a.lane = { l with
    schedule := l.schedule.drop (dueRecords k l.schedule).length, stack := a.lane.stack, sequence := a.lane.sequence }) _ _ rfl fun a h r _ => ?_
  show (x.applyTransition k a.lane r).1 = _
  rw [Store.applyTransition_frame]
  exact congrArg (fun z : Lane => { z with
    stack := (x.applyTransition k a.lane r).1.stack, sequence := (x.applyTransition k a.lane r).1.sequence }) h

theorem Store.applyDue_stackOk (x : Store) (k : AirNo) {l : Lane} (entry : x.entry.inRange = true) (ok : stackOk l.stack) :
    stackOk (x.applyDue k l).lane.stack :=
  List.foldlRecOn (motive := fun a : Applied => stackOk a.lane.stack) _ _ ok fun _ h r _ => x.applyTransition_stackOk k r entry h

/-- Steps 1 to 4 of a build leave a lane but for its bulletin unit's fields. -/
theorem Store.settle_frame (x : Store) (k : AirNo) (line : Micros) (l : Lane) :
    (x.settle k line l).lane = { l with
      schedule := l.schedule.drop (dueRecords k l.schedule).length, stack := (x.settle k line l).lane.stack
      sequence := (x.settle k line l).lane.sequence, holdPending := false, prevB := (x.settle k line l).lane.prevB
      prevU := (x.settle k line l).lane.prevU, triggers := (x.settle k line l).lane.triggers } := by
  simp only [Store.settle]
  exact congrArg (fun z : Lane => { z with
    stack := (x.settle k line l).lane.stack, holdPending := false, prevB := (x.settle k line l).lane.prevB
    prevU := (x.settle k line l).lane.prevU, triggers := (x.settle k line l).lane.triggers }) (x.applyDue_frame k l)

theorem Store.settle_stackOk (x : Store) (k : AirNo) (line : Micros) {l : Lane} (entry : x.entry.inRange = true) (ok : stackOk l.stack) :
    stackOk (x.settle k line l).lane.stack := by
  have ceilings := stackOk_removeCeilings (x.applyDue_stackOk k entry ok) k
  simp only [Store.settle]
  split
  · exact stackOk_removeHeld ceilings k
  · exact ceilings

/-! ### A build (R8) -/

/-- Steps 5 and 6 move the scheduler on and put the frame in build. -/
theorem Store.fillFrame_eq (x : Store) (f : LineFrame) (l : Lane) :
    ∃ m fr, Scheduled l m ∧ fr.number = f.number ∧ x.fillFrame f l = { m with inBuild := some fr, lastBuilt := f.number } := by
  unfold Store.fillFrame
  split
  · exact ⟨l, _, .refl l, rfl, rfl⟩
  · exact ⟨_, _, x.select_scheduled l, rfl, rfl⟩

/-- A build leaves what is not the bulletin unit's, the scheduler's or the frame builder's. -/
theorem Store.build_frame (x : Store) (f : LineFrame) (l : Lane) :
    ∃ fr m, fr.number = f.number ∧ Scheduled (x.settle f.number f.start l).lane m ∧
      (x.build f l).lane = { m with inBuild := some fr, lastBuilt := f.number } := by
  obtain ⟨m, fr, scheduled, number, e⟩ := x.fillFrame_eq f (x.settle f.number f.start l).lane
  exact ⟨fr, m, number, scheduled, e⟩

theorem Scheduled.mode {l m : Lane} (h : Scheduled l m) : m.mode = l.mode := (congrArg Lane.mode h.frame :)
theorem Scheduled.stop {l m : Lane} (h : Scheduled l m) : m.stop = l.stop := (congrArg Lane.stop h.frame :)
theorem Scheduled.onLine {l m : Lane} (h : Scheduled l m) : m.onLine = l.onLine := (congrArg Lane.onLine h.frame :)
theorem Scheduled.schedule {l m : Lane} (h : Scheduled l m) : m.schedule = l.schedule := (congrArg Lane.schedule h.frame :)
theorem Scheduled.cue {l m : Lane} (h : Scheduled l m) : m.cue = l.cue := (congrArg Lane.cue h.frame :)

@[simp] theorem Store.settle_mode (x : Store) (k : AirNo) (t : Micros) (l : Lane) : (x.settle k t l).lane.mode = l.mode :=
  (congrArg Lane.mode (x.settle_frame k t l) :)

@[simp] theorem Store.settle_stop (x : Store) (k : AirNo) (t : Micros) (l : Lane) : (x.settle k t l).lane.stop = l.stop :=
  (congrArg Lane.stop (x.settle_frame k t l) :)

@[simp] theorem Store.settle_onLine (x : Store) (k : AirNo) (t : Micros) (l : Lane) : (x.settle k t l).lane.onLine = l.onLine :=
  (congrArg Lane.onLine (x.settle_frame k t l) :)

@[simp] theorem Store.settle_queue (x : Store) (k : AirNo) (t : Micros) (l : Lane) : (x.settle k t l).lane.queue = l.queue :=
  (congrArg Lane.queue (x.settle_frame k t l) :)

@[simp] theorem Store.settle_serving (x : Store) (k : AirNo) (t : Micros) (l : Lane) : (x.settle k t l).lane.serving = l.serving :=
  (congrArg Lane.serving (x.settle_frame k t l) :)

@[simp] theorem Store.settle_cue (x : Store) (k : AirNo) (t : Micros) (l : Lane) : (x.settle k t l).lane.cue = l.cue :=
  (congrArg Lane.cue (x.settle_frame k t l) :)

theorem Store.settle_schedule (x : Store) (k : AirNo) (t : Micros) (l : Lane) :
    (x.settle k t l).lane.schedule = l.schedule.drop (dueRecords k l.schedule).length :=
  (congrArg Lane.schedule (x.settle_frame k t l) :)

@[simp] theorem Store.build_mode (x : Store) (f : LineFrame) (l : Lane) : (x.build f l).lane.mode = l.mode := by
  obtain ⟨fr, m, -, scheduled, e⟩ := x.build_frame f l
  rw [e]
  exact scheduled.mode.trans (x.settle_mode _ _ l)

@[simp] theorem Store.build_stop (x : Store) (f : LineFrame) (l : Lane) : (x.build f l).lane.stop = l.stop := by
  obtain ⟨fr, m, -, scheduled, e⟩ := x.build_frame f l
  rw [e]
  exact scheduled.stop.trans (x.settle_stop _ _ l)

@[simp] theorem Store.build_onLine (x : Store) (f : LineFrame) (l : Lane) : (x.build f l).lane.onLine = l.onLine := by
  obtain ⟨fr, m, -, scheduled, e⟩ := x.build_frame f l
  rw [e]
  exact scheduled.onLine.trans (x.settle_onLine _ _ l)

/-! ### The lanes at a build instant and at a line start -/

/-- What a build instant makes of a lane (R8, R12), with the events that latch. -/
def Store.atBuild (x : Store) (f : LineFrame) (onGrid : Bool) (l : Lane) : Settled :=
  match l.mode with
  | .off => { lane := l, events := [] }
  | .waiting =>
    { lane := if f.position = 0 ∧ onGrid = true ∧ l.inBuild = none ∧ x.entry.station ≠ 0 then x.joinBuild f l else l, events := [] }
  | .onAir => x.build f l

@[simp] theorem State.putLane_self (s : State) (n : LaneNo) : s.putLane n s.lanes[n] = s := by
  have same : s.lanes.set n s.lanes[n] = s.lanes := by simp
  show { s with lanes := s.lanes.set n s.lanes[n] } = s
  rw [same]

theorem State.laneBuild_eq (s : State) (f : LineFrame) (n : LaneNo) :
    s.laneBuild f n =
      (s.putLane n ((s.store n).atBuild f s.timebase.mode.onGrid s.lanes[n]).lane).latchAll
        ((s.store n).atBuild f s.timebase.mode.onGrid s.lanes[n]).events := by
  have none (l : Lane) : (s.putLane n l).latchAll [] = s.putLane n l := rfl
  unfold State.laneBuild Store.atBuild
  split
  · next off => rw [off, none, State.putLane_self]
  · next waiting =>
    have station : (s.store n).entry.station = s.tables.lane[n].station := rfl
    simp only [waiting, none, station]
    split
    · rfl
    · rw [State.putLane_self]
  · next onAir =>
    rw [onAir]

/-- An ON_AIR lane puts its frame in build on the line (R9). -/
def Lane.toLine (l : Lane) : Lane := { l with onLine := l.inBuild, inBuild := none }

/-- What a line start makes of a lane (R9, R12): a lane that puts its frame on the line, or joins with it, then builds the next. -/
def Store.atLineStart (x : Store) (f : LineFrame) (onGrid : Bool) (l : Lane) : Settled :=
  match l.mode with
  | .off => { lane := l, events := [] }
  | .waiting => if l.inBuild.isSome then x.build f l.join else x.atBuild f onGrid l
  | .onAir => if l.stop = .none then x.build f l.toLine else { lane := l.actOnStop, events := [] }

theorem Store.atBuild_onAir (x : Store) (f : LineFrame) (onGrid : Bool) {l : Lane} (h : l.mode = .onAir) : x.atBuild f onGrid l = x.build f l := by
  rw [Store.atBuild, h]

@[simp] theorem State.putLane_putLane (s : State) (n : LaneNo) (l m : Lane) : (s.putLane n l).putLane n m = s.putLane n m := by
  simp [State.putLane]

/-- A build instant at a lane just put. -/
theorem State.laneBuild_putLane (s : State) (f : LineFrame) (n : LaneNo) (l : Lane) :
    (s.putLane n l).laneBuild f n =
      (s.putLane n ((s.store n).atBuild f s.timebase.mode.onGrid l).lane).latchAll
        ((s.store n).atBuild f s.timebase.mode.onGrid l).events := by
  have put : (s.putLane n l).lanes[n] = l := by simp
  rw [State.laneBuild_eq, put, State.putLane_putLane]
  rfl

theorem State.laneLineStart_eq (s : State) (f : LineFrame) (n : LaneNo) :
    s.laneLineStart f n =
      (s.putLane n ((s.store n).atLineStart f s.timebase.mode.onGrid s.lanes[n]).lane).latchAll
        ((s.store n).atLineStart f s.timebase.mode.onGrid s.lanes[n]).events := by
  have none (l : Lane) : (s.putLane n l).latchAll [] = s.putLane n l := rfl
  unfold State.laneLineStart Store.atLineStart
  split
  · next off => rw [off, none, State.putLane_self]
  · next waiting =>
    rw [waiting]
    split
    · next joins =>
      rw [joins]
      exact (s.laneBuild_putLane f n s.lanes[n].join).trans (by rw [Store.atBuild_onAir _ _ _ rfl]; rfl)
    · next waits =>
      rw [waits]
      exact s.laneBuild_eq f n
  · next onAir =>
    rw [onAir]
    dsimp only
    split
    · have still : s.lanes[n].toLine.mode = .onAir := onAir
      exact (s.laneBuild_putLane f n s.lanes[n].toLine).trans (by rw [Store.atBuild_onAir _ _ _ still])
    · rfl

end Sys2Proof.Machine
end

section
/-! PROOF. The shapes of the lanes (R13 to R15, R32, R57 to R60, R102): each operation on a lane keeps what its state allows. -/

namespace Sys2Proof.Safety

open Machine

/-! ### The parts of a lane's shape -/

theorem offAir_iff (l : Lane) :
    offAir l = true ↔ l.stop = .none ∧ l.onLine = none ∧ l.stack = [] ∧ l.schedule = [] ∧ l.holdPending = false ∧ l.queue = [] ∧
      l.serving = none ∧ l.records = [] ∧ l.triggers = [] ∧ l.cue = CueLine.cleared := by
  simp [offAir, and_assoc]

/-- The insertion queue holds at most 4 requests, none twice, and a service in progress is that of one of them (R32, R33). -/
def requestsOk (queue : List Zone) (serving : Option Nat) : Prop :=
  queue.length ≤ 4 ∧ queue.Nodup ∧ (serving.isSome = true → queue ≠ [])

theorem queuesOk_iff (l : Lane) :
    queuesOk l = true ↔ l.schedule.length ≤ 8 ∧ requestsOk l.queue l.serving ∧ l.cue.queue.length ≤ 4 := by
  cases e : l.serving <;> simp [queuesOk, requestsOk, e, and_assoc]

theorem laneOk_onAir {l : Lane} (h : l.mode = .onAir) :
    laneOk l = true ↔ stackOk l.stack ∧ l.schedule.length ≤ 8 ∧ requestsOk l.queue l.serving ∧ l.cue.queue.length ≤ 4 := by
  simp only [laneOk, h, Bool.and_eq_true, queuesOk_iff, stackOk]

theorem laneOk_waiting {l : Lane} (h : l.mode = .waiting) : laneOk l = true ↔ offAir l = true := by simp [laneOk, h]

theorem laneOk_off {l : Lane} (h : l.mode = .off) : laneOk l = true ↔ offAir l = true ∧ l.inBuild = none := by simp [laneOk, h]

/-- The shape of an ON_AIR lane is one of its stack, its queues and its cue line alone. -/
theorem laneOk_onAir_congr {l m : Lane} (ok : laneOk l = true) (onAir : l.mode = .onAir) (mode : m.mode = l.mode) (stack : m.stack = l.stack)
    (schedule : m.schedule = l.schedule) (queue : m.queue = l.queue) (serving : m.serving = l.serving) (cue : m.cue = l.cue) :
    laneOk m = true := by
  rw [laneOk_onAir (mode.trans onAir), stack, schedule, queue, serving, cue]
  exact (laneOk_onAir onAir).1 ok

theorem mode_cases (l : Lane) : l.mode = .off ∨ l.mode = .waiting ∨ l.mode = .onAir := by cases l.mode <;> simp

/-- A lane that is not ON_AIR holds nothing of the air. -/
theorem laneOk_offAir {l : Lane} (ok : laneOk l = true) (h : l.mode ≠ .onAir) : offAir l = true := by
  rcases mode_cases l with e | e | e
  · exact ((laneOk_off e).1 ok).1
  · exact (laneOk_waiting e).1 ok
  · exact absurd e h

theorem onAir_of_triggers {l : Lane} (ok : laneOk l = true) (h : l.triggers ≠ []) : l.mode = .onAir := by
  by_contra e
  obtain ⟨-, -, -, -, -, -, -, -, triggers, -⟩ := (offAir_iff l).1 (laneOk_offAir ok e)
  exact h triggers

theorem onAir_of_cue {l : Lane} (ok : laneOk l = true) (h : l.cue ≠ CueLine.cleared) : l.mode = .onAir := by
  by_contra e
  obtain ⟨-, -, -, -, -, -, -, -, -, cue⟩ := (offAir_iff l).1 (laneOk_offAir ok e)
  exact h cue

/-! ### The operations on a lane -/

theorem laneOk_cleared (l : Lane) (toOff : Bool) : laneOk (l.cleared toOff) = true := by
  cases toOff <;> simp [laneOk, Lane.cleared, offAir]

theorem laneOk_heldBy {l : Lane} (ok : laneOk l = true) (b : Bool) : laneOk (l.heldBy b) = true := by
  unfold Lane.heldBy
  split
  · next fires =>
    have onAir : l.mode = .onAir := by simp_all
    exact laneOk_onAir_congr ok onAir rfl rfl rfl rfl rfl rfl
  · exact ok

theorem laneOk_cue {l : Lane} {c : CueLine} (ok : laneOk l = true) (bound : l.cue.queue.length ≤ 4 → c.queue.length ≤ 4)
    (idle : l.cue = CueLine.cleared → c = CueLine.cleared) : laneOk { l with cue := c } = true := by
  have quiet (h : offAir l = true) : offAir { l with cue := c } = true := by
    obtain ⟨stop, line, stack, schedule, hold, queue, serving, records, triggers, cue⟩ := (offAir_iff l).1 h
    exact (offAir_iff _).2 ⟨stop, line, stack, schedule, hold, queue, serving, records, triggers, idle cue⟩
  rcases mode_cases l with e | e | e
  · obtain ⟨h, empty⟩ := (laneOk_off e).1 ok
    exact (laneOk_off (l := { l with cue := c }) e).2 ⟨quiet h, empty⟩
  · exact (laneOk_waiting (l := { l with cue := c }) e).2 (quiet ((laneOk_waiting e).1 ok))
  · obtain ⟨stack, schedule, requests, cue⟩ := (laneOk_onAir e).1 ok
    exact (laneOk_onAir (l := { l with cue := c }) e).2 ⟨stack, schedule, requests, bound cue⟩

theorem laneOk_request {l : Lane} (ok : laneOk l = true) (onAir : l.mode = .onAir) (z : Zone) : laneOk (l.request z) = true := by
  obtain ⟨stack, schedule, ⟨short, nodup, serving⟩, cue⟩ := (laneOk_onAir onAir).1 ok
  unfold Lane.request
  split
  · split
    · next head =>
      have nonempty : l.queue ≠ [] := by
        intro e
        simp [e] at head
      exact (laneOk_onAir (l := { l with serving := some 0 }) onAir).2 ⟨stack, schedule, ⟨short, nodup, fun _ => nonempty⟩, cue⟩
    · exact ok
  · next absent =>
    split
    · next room =>
      refine (laneOk_onAir (l := { l with queue := l.queue ++ [z] }) onAir).2 ⟨stack, schedule, ⟨?_, ?_, fun _ => by simp⟩, cue⟩
      · simp only [List.length_append, List.length_singleton]; omega
      · simpa using List.Nodup.concat (by simpa using absent) nodup
    · exact ok

theorem laneOk_titleChanged {l : Lane} (ok : laneOk l = true) (own z : Zone) : laneOk (l.titleChanged own z) = true := by
  unfold Lane.titleChanged
  split
  · next onAir =>
    have ok' : laneOk { l with segs := l.segs.put (.title z) 0 } = true := 
      laneOk_onAir_congr ok onAir.1 rfl rfl rfl rfl rfl rfl
    exact laneOk_request ok' onAir.1 z
  · exact ok

theorem laneOk_switchOn {l : Lane} (ok : laneOk l = true) : laneOk l.switchOn = true := by
  unfold Lane.switchOn
  split
  · next off => exact (laneOk_waiting rfl).2 ((laneOk_off off).1 ok).1
  · exact ok
  · next onAir =>
    split
    · exact laneOk_onAir_congr ok onAir rfl rfl rfl rfl rfl rfl
    · exact ok

theorem laneOk_switchOff {l : Lane} (ok : laneOk l = true) : laneOk l.switchOff = true := by
  unfold Lane.switchOff
  split
  · exact ok
  · exact laneOk_cleared l true
  · next onAir =>
    split
    · exact laneOk_onAir_congr ok onAir rfl rfl rfl rfl rfl rfl
    · exact laneOk_cleared l true

/-- What a lane has in build is not part of its shape, but that a lane that is OFF has nothing. -/
theorem laneOk_inBuild {l : Lane} (ok : laneOk l = true) {b : Option AirFrame} {k : AirNo} (h : l.mode = .off → b = none) :
    laneOk { l with inBuild := b, lastBuilt := k } = true := by
  rcases mode_cases l with e | e | e
  · exact (laneOk_off (l := { l with inBuild := b, lastBuilt := k }) e).2 ⟨((laneOk_off e).1 ok).1, h e⟩
  · exact (laneOk_waiting (l := { l with inBuild := b, lastBuilt := k }) e).2 ((laneOk_waiting e).1 ok)
  · exact laneOk_onAir_congr ok e rfl rfl rfl rfl rfl rfl

/-- The stop request of an ON_AIR lane and the frame on its line are not part of its shape. -/
theorem laneOk_line {l : Lane} (ok : laneOk l = true) (onAir : l.mode = .onAir) (stop : StopRequest) (line inBuild : Option AirFrame) :
    laneOk { l with stop := stop, onLine := line, inBuild := inBuild } = true :=
  laneOk_onAir_congr ok onAir rfl rfl rfl rfl rfl rfl

theorem laneOk_stopAir {l : Lane} (ok : laneOk l = true) : laneOk l.stopAir = true := by
  unfold Lane.stopAir
  split
  · exact ok
  · exact laneOk_inBuild ok fun _ => rfl
  · next onAir =>
    split
    · split
      · exact laneOk_line ok onAir _ _ _
      · exact ok
    · exact laneOk_cleared l _

theorem laneOk_finalEnd {l : Lane} (ok : laneOk l = true) (stopping : Bool) : laneOk (l.finalEnd stopping) = true := by
  unfold Lane.finalEnd
  split
  · exact ok
  · split
    · exact laneOk_inBuild ok fun _ => rfl
    · exact ok
  · next onAir =>
    split
    · exact laneOk_line ok onAir _ _ _
    · exact laneOk_cleared l _

theorem laneOk_join {l : Lane} (ok : laneOk l = true) (waiting : l.mode = .waiting) : laneOk l.join = true := by
  obtain ⟨-, -, -, -, -, -, -, -, -, cue⟩ := (offAir_iff l).1 ((laneOk_waiting waiting).1 ok)
  refine (laneOk_onAir (l := l.join) rfl).2 ⟨stackOk_regular, Nat.zero_le _, ⟨Nat.zero_le _, List.nodup_nil, fun e => by cases e⟩, ?_⟩
  show l.cue.queue.length ≤ 4
  simp [cue, CueLine.cleared]

theorem laneOk_ceilings {l : Lane} (ok : laneOk l = true) (k : AirNo) : laneOk { l with stack := removeCeilings k l.stack } = true := by
  by_cases onAir : l.mode = .onAir
  · obtain ⟨stack, rest⟩ := (laneOk_onAir onAir).1 ok
    exact (laneOk_onAir (l := { l with stack := removeCeilings k l.stack }) onAir).2 ⟨stackOk_removeCeilings stack k, rest⟩
  · obtain ⟨-, -, empty, -⟩ := (offAir_iff l).1 (laneOk_offAir ok onAir)
    have same : { l with stack := removeCeilings k l.stack } = l := by
      have : removeCeilings k l.stack = l.stack := by rw [empty]; rfl
      rw [this]
    rw [same]
    exact ok

/-- A lane whose scheduler has moved on keeps its shape. -/
theorem laneOk_scheduled {l m : Lane} (h : Scheduled l m) (ok : laneOk l = true) (onAir : l.mode = .onAir) : laneOk m = true := by
  obtain ⟨stack, schedule, ⟨short, nodup, serving⟩, cue⟩ := (laneOk_onAir onAir).1 ok
  refine (laneOk_onAir (h.mode.trans onAir)).2
    ⟨stackOk_congr h.levels stack, h.schedule ▸ schedule, ⟨h.queue.length_le.trans short, h.queue.sublist.nodup nodup, h.serving serving⟩, ?_⟩
  rw [h.cue]
  exact cue

theorem laneOk_settle {x : Store} (entry : x.entry.inRange = true) (k : AirNo) (t : Micros) {l : Lane} (ok : laneOk l = true)
    (onAir : l.mode = .onAir) : laneOk (x.settle k t l).lane = true := by
  obtain ⟨stack, schedule, requests, cue⟩ := (laneOk_onAir onAir).1 ok
  refine (laneOk_onAir ((x.settle_mode k t l).trans onAir)).2 ⟨x.settle_stackOk k t entry stack, ?_, by simpa using requests, by simpa using cue⟩
  rw [x.settle_schedule, List.length_drop]
  omega

theorem laneOk_build {x : Store} (entry : x.entry.inRange = true) (f : LineFrame) {l : Lane} (ok : laneOk l = true) (onAir : l.mode = .onAir) :
    laneOk (x.build f l).lane = true := by
  obtain ⟨fr, m, -, scheduled, e⟩ := x.build_frame f l
  have settledOnAir : (x.settle f.number f.start l).lane.mode = .onAir := (x.settle_mode _ _ l).trans onAir
  rw [e]
  refine laneOk_inBuild (laneOk_scheduled scheduled (laneOk_settle entry _ _ ok onAir) settledOnAir) fun off => ?_
  rw [scheduled.mode, settledOnAir] at off
  cases off

theorem laneOk_atBuild {x : Store} (entry : x.entry.inRange = true) (f : LineFrame) (onGrid : Bool) {l : Lane} (ok : laneOk l = true) :
    laneOk (x.atBuild f onGrid l).lane = true := by
  unfold Store.atBuild
  split
  · exact ok
  · next waiting =>
    dsimp only
    split
    · exact laneOk_inBuild ok fun off => by simp [waiting] at off
    · exact ok
  · next onAir => exact laneOk_build entry f ok onAir

theorem laneOk_atLineStart {x : Store} (entry : x.entry.inRange = true) (f : LineFrame) (onGrid : Bool) {l : Lane} (ok : laneOk l = true) :
    laneOk (x.atLineStart f onGrid l).lane = true := by
  unfold Store.atLineStart
  split
  · exact ok
  · next waiting =>
    split
    · exact laneOk_build entry f (laneOk_join ok waiting) rfl
    · exact laneOk_atBuild entry f onGrid ok
  · next onAir =>
    split
    · exact laneOk_build entry f (laneOk_line ok onAir _ _ _) onAir
    · exact laneOk_cleared l _

/-! ### The cue lines keep the length of their queues -/

@[simp] theorem CueLine.startTrain_queue (c : CueLine) (e : CueEntry) (t : Micros) : (c.startTrain e t).queue = c.queue := rfl

@[simp] theorem CueLine.startIfIdle_queue (c : CueLine) (e : CueEntry) (t : Micros) : (c.startIfIdle e t).queue = c.queue := by
  unfold CueLine.startIfIdle
  split <;> rfl

@[simp] theorem CueLine.trainOver_queue (c : CueLine) (e : CueEntry) (t : Micros) : (c.trainOver e t).queue = c.queue := by
  unfold CueLine.trainOver
  split <;> rfl

@[simp] theorem CueLine.complete_queue (c : CueLine) (e : CueEntry) (t : Micros) : (c.complete e t).queue = c.queue := by
  unfold CueLine.complete
  split
  · exact CueLine.trainOver_queue c e t
  · rfl

@[simp] theorem CueLine.closeTrain_queue (c : CueLine) (e : CueEntry) (t : Micros) : (c.closeTrain e t).queue = c.queue := by
  unfold CueLine.closeTrain
  split
  · rfl
  · split
    · exact CueLine.trainOver_queue _ e t
    · rfl

theorem CueLine.edgeDue_queue (c : CueLine) (e : CueEntry) (edge : Edge) (t : Micros) : (c.edgeDue e edge t).queue = c.queue := by
  unfold CueLine.edgeDue
  split
  · rfl
  · unfold CueLine.levelEdge
    split <;> rfl
  · unfold CueLine.pulseEdge
    split <;> simp
  · unfold CueLine.repeatEdge
    split <;> simp

theorem CueLine.phaseOver_queue (c : CueLine) (e : CueEntry) (t : Micros) : (c.phaseOver e t).queue = c.queue := by
  unfold CueLine.phaseOver
  split
  · rfl
  · rfl
  · split
    · rfl
    · exact CueLine.trainOver_queue c e t

theorem insertQueued_length (q : Queued) (l : List Queued) : (insertQueued q l).length = l.length + 1 := by
  induction l with
  | nil => rfl
  | cons p rest ih =>
    unfold insertQueued
    split <;> simp [ih]

theorem CueLine.arrive_queue {c : CueLine} (e : CueEntry) (t : Trigger) (now : Micros) (h : c.queue.length ≤ 4) :
    (c.arrive e t now).1.queue.length ≤ 4 := by
  unfold CueLine.arrive
  split
  · exact h
  · split
    · simp only [insertQueued_length]; omega
    · exact h

theorem laneOk_cycleStart {l : Lane} (ok : laneOk l = true) (e : CueEntry) (t : Micros) : laneOk { l with cue := l.cue.cycleStart e t } = true := by
  refine laneOk_cue ok (fun h => ?_) fun idle => ?_
  · unfold CueLine.cycleStart
    split
    · simpa using h
    · exact h
  · rw [idle]
    simp [CueLine.cycleStart, CueLine.cleared]

theorem insertRecord_length (r : Transition) (l : List Transition) : (insertRecord r l).length = l.length + 1 := by
  induction l with
  | nil => rfl
  | cons p rest ih =>
    unfold insertRecord
    split <;> simp [ih]

end Sys2Proof.Safety
end

section
/-! PROOF. The ranges of the tables (R158): what stores an entry, takes a table from elsewhere or keeps parts of the old tables keeps them. -/

namespace Sys2Proof.Machine

/-! ### Two properties at once -/

theorem SharedKeep.and {P Q : State → Prop} (k : SharedKeep P) (m : SharedKeep Q) : SharedKeep (fun s => P s ∧ Q s) where
  hardReset env h := ⟨k.hardReset env h.1, m.hardReset env h.2⟩
  restart env h := ⟨k.restart env h.1, m.restart env h.2⟩
  clockAt t h := ⟨k.clockAt t h.1, m.clockAt t h.2⟩
  latch e h := ⟨k.latch e h.1, m.latch e h.2⟩
  queueAnswer a h := ⟨k.queueAnswer a h.1, m.queueAnswer a h.2⟩
  answers u queue lost h := ⟨k.answers u queue lost h.1, m.answers u queue lost h.2⟩
  feed f h := ⟨k.feed f h.1, m.feed f h.2⟩
  guard b h := ⟨k.guard b h.1, m.guard b h.2⟩
  lostAt t h := ⟨k.lostAt t h.1, m.lostAt t h.2⟩
  recordOutcome complete bad h := ⟨k.recordOutcome complete bad h.1, m.recordOutcome complete bad h.2⟩
  feedLost h := ⟨k.feedLost h.1, m.feedLost h.2⟩
  recent n fresh h := ⟨k.recent n fresh h.1, m.recent n fresh h.2⟩
  titleZone text z short clamped h := ⟨k.titleZone text z short clamped h.1, m.titleZone text z short clamped h.2⟩
  takeRecord n r h := ⟨k.takeRecord n r h.1, m.takeRecord n r h.2⟩
  sendRecord n r onAir h := ⟨k.sendRecord n r onAir h.1, m.sendRecord n r onAir h.2⟩
  dropRecord n i h := ⟨k.dropRecord n i h.1, m.dropRecord n i h.2⟩

theorem TakenKeep.and {P Q : State → Prop} (k : TakenKeep P) (m : TakenKeep Q) : TakenKeep (fun s => P s ∧ Q s) where
  write args passed h := ⟨k.write args passed h.1, m.write args passed h.2⟩
  protect p h := ⟨k.protect p h.1, m.protect p h.2⟩
  saving r idle h := ⟨k.saving r idle h.1, m.saving r idle h.2⟩
  reloading v idle unread h := ⟨k.reloading v idle unread h.1, m.reloading v idle unread h.2⟩
  freezing n r idle h := ⟨k.freezing n r idle h.1, m.freezing n r idle h.2⟩
  idle h := ⟨k.idle h.1, m.idle h.2⟩

theorem ControllerKeep.mono {P P' Q : State → Prop} (k : ControllerKeep P Q) (h : ∀ {s}, P' s → P s) : ControllerKeep P' Q where
  startUpTablePlaced p := k.startUpTablePlaced (h p)
  freezeRecordRead p := k.freezeRecordRead (h p)
  saveRecordWritten p := k.saveRecordWritten (h p)
  loadPresetStepDone p := k.loadPresetStepDone (h p)
  freezeWriteComplete ok n p := k.freezeWriteComplete ok n (h p)
  presetAccessTimeout n p := k.presetAccessTimeout n (h p)

/-! ### The timers leave the lanes -/

@[simp] theorem State.syncPulseMissed_lanes (s : State) : s.syncPulseMissed.lanes = s.lanes := by
  unfold State.syncPulseMissed
  split
  · split
    · rfl
    · dsimp only
      split <;> simp
  · rfl

@[simp] theorem State.syncLost_lanes (s : State) : s.syncLost.lanes = s.lanes := by
  unfold State.syncLost
  split <;> simp

@[simp] theorem State.masterPulseStart_lanes (s : State) : s.masterPulseStart.lanes = s.lanes := by
  unfold State.masterPulseStart
  split <;> simp

@[simp] theorem State.masterPulseEnd_lanes (s : State) : s.masterPulseEnd.lanes = s.lanes := by
  unfold State.masterPulseEnd
  split <;> simp

/-! ### Entries that parse are in range -/

theorem NameEntry.parse_inRange {l : List Byte} {e : NameEntry} (h : NameEntry.parse l = some e) : e.inRange = true := by
  unfold NameEntry.parse at h
  split at h
  · next whole =>
    cases h
    simp [NameEntry.inRange, whole, clampChar_idem]
  · cases h

@[simp] theorem NeighbourEntry.load_codes_length (l : List Byte) : (NeighbourEntry.load l).codes.length = 24 := by
  simp [NeighbourEntry.load]

theorem NeighbourEntry.parse_inRange {l : List Byte} {e : NeighbourEntry} (h : NeighbourEntry.parse l = some e) : e.inRange = true := by
  unfold NeighbourEntry.parse at h
  split at h
  · dsimp only at h
    split at h
    · next valid =>
      cases h
      simp only [Bool.and_eq_true, decide_eq_true_eq] at valid
      obtain ⟨short, codes⟩ := valid
      have length : ((NeighbourEntry.load l).codes.take (NeighbourEntry.load l).count).length = (NeighbourEntry.load l).count := by
        simp only [List.length_take, NeighbourEntry.load_codes_length]
        omega
      simp only [NeighbourEntry.inRange, List.take_left' length, List.drop_left' length, codes, List.length_append, length,
        List.length_replicate, List.all_replicate]
      simp [short]
    · cases h
  · cases h

/-! ### The ranges table by table -/

/-- Table number `t` is within its ranges. -/
def Tables.partOk (T : Tables) (t : Nat) : Bool :=
  match t with
  | 1 => T.lane.toList.all LaneEntry.inRange
  | 2 => T.regular.toList.all ListEntry.inRange
  | 3 => T.bulletin.toList.all ListEntry.inRange
  | 4 => T.urgent.toList.all ListEntry.inRange
  | 5 => T.names.toList.all NameEntry.inRange
  | 6 => T.neighbours.toList.all NeighbourEntry.inRange
  | 7 => T.cueLines.toList.all CueEntry.inRange
  | 8 => T.site.inRange
  | _ => true

theorem Tables.inRange_iff (T : Tables) : T.inRange = true ↔ ∀ t, T.partOk t = true := by
  constructor
  · intro h t
    simp only [Tables.inRange, Bool.and_eq_true] at h
    obtain ⟨⟨⟨⟨⟨⟨⟨lane, regular⟩, bulletin⟩, urgent⟩, names⟩, neighbours⟩, cueLines⟩, site⟩ := h
    unfold Tables.partOk
    split
    · exact lane
    · exact regular
    · exact bulletin
    · exact urgent
    · exact names
    · exact neighbours
    · exact cueLines
    · exact site
    · rfl
  · intro h
    simp only [Tables.inRange, Bool.and_eq_true]
    exact ⟨⟨⟨⟨⟨⟨⟨h 1, h 2⟩, h 3⟩, h 4⟩, h 5⟩, h 6⟩, h 7⟩, h 8⟩

theorem all_toList_iff {α : Type} {n : Nat} {v : Vector α n} {p : α → Bool} :
    v.toList.all p = true ↔ ∀ (i : Nat) (h : i < n), p v[i] = true := by
  simp only [List.all_eq_true, Vector.mem_toList_iff, Vector.mem_iff_getElem]
  constructor
  · exact fun all i h => all _ ⟨i, h, rfl⟩
  · rintro all _ ⟨i, h, rfl⟩
    exact all i h

theorem all_toList_setIfInBounds {α : Type} {n : Nat} {v : Vector α n} {p : α → Bool} (i : Nat) {x : α} (h : v.toList.all p = true)
    (hx : p x = true) : (v.setIfInBounds i x).toList.all p = true := by
  rw [all_toList_iff] at h ⊢
  intro j hj
  rw [Vector.getElem_setIfInBounds]
  split
  · exact hx
  · exact h j hj

theorem all_toList_ofFn {α : Type} {n : Nat} {f : Fin n → α} {p : α → Bool} (h : ∀ i, p (f i) = true) : (Vector.ofFn f).toList.all p = true := by
  rw [all_toList_iff]
  intro j hj
  simpa using h ⟨j, hj⟩

theorem Tables.lane_inRange {T : Tables} (h : T.inRange = true) (n : LaneNo) : T.lane[n].inRange = true :=
  all_toList_iff.1 ((T.inRange_iff.1 h) 1) n.val n.isLt

theorem Tables.default_inRange : Tables.default.inRange = true := by rfl

/-! ### One table in place of another -/

theorem Tables.copyTable_inRange {T S : Tables} (t : Nat) (h : T.inRange = true) (part : S.partOk t = true) :
    (T.copyTable S t).inRange = true := by
  simp only [Tables.inRange, Bool.and_eq_true] at h
  obtain ⟨⟨⟨⟨⟨⟨⟨lane, regular⟩, bulletin⟩, urgent⟩, names⟩, neighbours⟩, cueLines⟩, site⟩ := h
  unfold Tables.copyTable
  unfold Tables.partOk at part
  split <;> simp only [Tables.inRange, Bool.and_eq_true, *] <;> simp_all

/-- A table of the same number of the same tables is the same. -/
theorem Tables.copyTable_partOk (T S : Tables) (t : Nat) : (T.copyTable S t).partOk t = S.partOk t := by
  unfold Tables.copyTable Tables.partOk
  split <;> rfl

theorem Tables.copyTable_self (T : Tables) (t : Nat) : T.copyTable T t = T := by
  unfold Tables.copyTable
  split <;> rfl

/-- Storing an entry of table `t` leaves the other tables. -/
theorem Tables.store_eq (T : Tables) (t i : Nat) (l : List Byte) : T.store t i l = T.copyTable (T.store t i l) t := by
  unfold Tables.store
  split
  case h_8 =>
    split
    · split <;> rfl
    · rfl
  case h_9 => exact (T.copyTable_self t).symm
  all_goals split <;> rfl

theorem Tables.store_partOk {T : Tables} {t : Nat} (i : Nat) (l : List Byte) (h : T.partOk t = true) : (T.store t i l).partOk t = true := by
  unfold Tables.store
  split
  · split
    · next parsed => exact all_toList_setIfInBounds i h (LaneEntry.parse_some parsed).2
    · exact h
  · split
    · next parsed => exact all_toList_setIfInBounds i h (ListEntry.parse_some parsed).2
    · exact h
  · split
    · next parsed => exact all_toList_setIfInBounds i h (ListEntry.parse_some parsed).2
    · exact h
  · split
    · next parsed => exact all_toList_setIfInBounds i h (ListEntry.parse_some parsed).2
    · exact h
  · split
    · next parsed => exact all_toList_setIfInBounds i h (NameEntry.parse_inRange parsed)
    · exact h
  · split
    · next parsed => exact all_toList_setIfInBounds i h (NeighbourEntry.parse_inRange parsed)
    · exact h
  · split
    · next parsed => exact all_toList_setIfInBounds i h (CueEntry.parse_some parsed).2
    · exact h
  · split
    · next parsed =>
      split
      · exact (SiteEntry.parse_some parsed).2
      · exact h
    · exact h
  · exact h

theorem Tables.store_inRange {T : Tables} (t i : Nat) (l : List Byte) (h : T.inRange = true) : (T.store t i l).inRange = true := by
  rw [Tables.store_eq]
  exact Tables.copyTable_inRange t h (Tables.store_partOk i l ((T.inRange_iff.1 h) t))

theorem Tables.storeAll_inRange {T : Tables} (t i : Nat) (l : List (List Byte)) (h : T.inRange = true) : (T.storeAll t i l).inRange = true := by
  induction l generalizing T i with
  | nil => exact h
  | cons e rest ih => exact ih (i + 1) (Tables.store_inRange t i e h)

end Sys2Proof.Machine

namespace Sys2Proof.Safety

open Machine

/-! ### T1 to T8 of the part -/

theorem TablesOk.airFree : AirFree TablesOk := ⟨fun _ h => h, fun _ h => h, fun _ h => h⟩

theorem TablesOk.feedFree : FeedFree TablesOk := ⟨fun _ h => h, fun _ h => h, fun _ h => by simpa [TablesOk] using h⟩

theorem TablesOk.shared : SharedKeep TablesOk where
  hardReset _ _ := Tables.default_inRange
  restart _ h := h
  clockAt _ h := h
  latch := TablesOk.feedFree.latch
  queueAnswer _ h := by simpa [TablesOk] using h
  answers _ _ _ h := h
  feed _ h := h
  guard _ h := h
  lostAt _ h := h
  recordOutcome := TablesOk.feedFree.recordOutcome TablesOk.airFree
  feedLost := TablesOk.feedFree.feedLost TablesOk.airFree
  recent _ _ h := h
  titleZone text z _ _ := TablesOk.airFree.titleZone (fun _ h => h) _ text z
  takeRecord := TablesOk.airFree.takeRecord TablesOk.feedFree.latch
  sendRecord _ _ _ h := h
  dropRecord _ _ h := h

theorem TablesOk.air : AirKeep TablesOk := TablesOk.airFree.keep TablesOk.shared TablesOk.feedFree.holdKeep

theorem TablesOk.changeTables {s : State} {T : Tables} (h : T.inRange = true) : TablesOk (s.changeTables T) := by
  rw [TablesOk, State.changeTables_tables]
  exact h

theorem TablesOk.taken : TakenKeep TablesOk where
  write _ _ h := TablesOk.changeTables (Tables.storeAll_inRange _ _ _ h)
  protect _ h := h
  saving _ _ h := h
  reloading _ _ _ h := h
  freezing _ _ _ h := h
  idle h := h

/-! ### Lanes -/

theorem LanesOk.modLane {s : State} {n : LaneNo} {f : Lane → Lane} (h : LanesOk s) (lane : laneOk (f s.lanes[n]) = true) :
    LanesOk (s.modLane n f) := by
  intro m
  rw [State.modLane_lane]
  split
  · next same => exact same ▸ lane
  · exact h m

theorem LanesOk.putLane {s : State} {n : LaneNo} {l : Lane} (h : LanesOk s) (lane : laneOk l = true) : LanesOk (s.putLane n l) := by
  intro m
  rw [State.putLane_lane]
  split
  · exact lane
  · exact h m

theorem LanesOk.mapLanes {s : State} {f : Lane → Lane} (h : LanesOk s) (keeps : ∀ {l}, laneOk l = true → laneOk (f l) = true) :
    LanesOk (s.mapLanes f) := by
  intro n
  rw [State.mapLanes_lane]
  exact keeps (h n)

theorem LanesOk.latch {s : State} (e : Event) (h : LanesOk s) : LanesOk (s.latch e) := by simpa [LanesOk] using h

theorem LanesOk.latchAll {s : State} (l : List Event) (h : LanesOk s) : LanesOk (s.latchAll l) := by simpa [LanesOk] using h

theorem LanesOk.latchIf {s : State} (b : Bool) (e : Event) (h : LanesOk s) : LanesOk (s.latchIf b e) := by simpa [LanesOk] using h

theorem LanesOk.clockTo {s : State} (t : Micros) (h : LanesOk s) : LanesOk (s.clockTo t) := by simpa [LanesOk] using h

theorem LanesOk.reset {s : State} (h : s.lanes = Vector.replicate 4 Lane.reset) : LanesOk s := by
  intro n
  have lane : s.lanes[n] = Lane.reset := by simp [h]
  rw [lane]
  rfl

theorem LanesOk.syncHold {s : State} (h : LanesOk s) : LanesOk s.syncHold := by
  intro n
  rw [State.syncHold_lane]
  exact laneOk_heldBy (h n) _

theorem LanesOk.putFeedState {s : State} (x : FeedState) (h : LanesOk s) : LanesOk (s.putFeedState x) := LanesOk.syncHold h

theorem LanesOk.changeTables {s : State} (T : Tables) (h : LanesOk s) : LanesOk (s.changeTables T) := by
  intro n
  rw [State.changeTables_lane]
  refine laneOk_heldBy ?_ _
  split
  · exact h n
  · exact laneOk_cue (h n) id fun idle => by rw [idle]; rfl

theorem LanesOk.takeRecord {s : State} (n : LaneNo) (r : Transition) (h : LanesOk s) : LanesOk (s.takeRecord n r) := by
  unfold State.takeRecord
  split
  · next onAir =>
    dsimp only
    split
    · next room =>
      refine (h.latchIf _ _).modLane ?_
      have onAir' : ((s.latchIf (atOrBefore r.target s.lanes[n].lastBuilt) .cueLate).lanes[n]).mode = .onAir := by simpa using onAir
      obtain ⟨stack, -, rest⟩ := (laneOk_onAir onAir').1 (h.latchIf _ _ n)
      exact (laneOk_onAir (l := { (State.latchIf _ _ _).lanes[n] with schedule := insertRecord _ _ }) onAir').2
        ⟨stack, by rw [insertRecord_length]; omega, rest⟩
    · exact (h.latchIf _ _).latch _
  · exact h

/-- What is on its way to an ON_AIR lane's bulletin unit is not part of its shape. -/
theorem laneOk_records {l : Lane} {r : List Transition} (ok : laneOk l = true) (h : l.mode = .onAir ∨ (l.records = [] → r = [])) :
    laneOk { l with records := r } = true := by
  by_cases onAir : l.mode = .onAir
  · exact laneOk_onAir_congr ok onAir rfl rfl rfl rfl rfl rfl
  · obtain ⟨-, -, -, -, -, -, -, records, -⟩ := (offAir_iff l).1 (laneOk_offAir ok onAir)
    have same : { l with records := r } = l := by rw [(h.resolve_left onAir) records, ← records]
    rw [same]
    exact ok

theorem LanesOk.shared : SharedKeep LanesOk where
  hardReset _ _ := LanesOk.reset rfl
  restart _ _ := LanesOk.reset rfl
  clockAt _ h := h
  latch := LanesOk.latch
  queueAnswer _ h := by simpa [LanesOk] using h
  answers _ _ _ h := h
  feed _ h := h
  guard _ h := h
  lostAt _ h := h
  recordOutcome := recordOutcome_keeps (P := LanesOk) (fun _ h => h) (fun _ h => h) LanesOk.putFeedState LanesOk.latch
  feedLost := feedLost_keeps (P := LanesOk) LanesOk.putFeedState LanesOk.latch
  recent _ _ h := h
  titleZone text z _ _ h n := by
    rw [State.titleZone_lane]
    split
    · exact h n
    · exact laneOk_titleChanged (h n) _ z
  takeRecord := LanesOk.takeRecord
  sendRecord n r onAir h := h.modLane (laneOk_records (h n) (.inl onAir))
  dropRecord n i h := h.modLane (laneOk_records (h n) (.inr fun e => by rw [e]; rfl))

theorem LanesOk.presetFree : PresetFree LanesOk where
  changeTables := LanesOk.changeTables
  protect _ h := h
  frozen _ h := h
  preset _ h := h
  memory _ h := h

/-! ### The lanes at the instants of the timebase, over tables in range -/

theorem LanesOk.laneBuild {s : State} (f : LineFrame) (n : LaneNo) (h : LanesOk s) (tables : TablesOk s) : LanesOk (s.laneBuild f n) := by
  rw [State.laneBuild_eq]
  exact (h.putLane (laneOk_atBuild (x := s.store n) (Tables.lane_inRange tables n) f _ (h n))).latchAll _

theorem LanesOk.laneLineStart {s : State} (f : LineFrame) (n : LaneNo) (h : LanesOk s) (tables : TablesOk s) : LanesOk (s.laneLineStart f n) := by
  rw [State.laneLineStart_eq]
  exact (h.putLane (laneOk_atLineStart (x := s.store n) (Tables.lane_inRange tables n) f _ (h n))).latchAll _

/-- The lanes are as their states allow, over tables in range. -/
def AirOk (s : State) : Prop := LanesOk s ∧ TablesOk s

theorem AirOk.earlyBuildAt {s : State} (start : Micros) (order : List LaneNo) (h : AirOk s) : AirOk (s.earlyBuildAt start order) := by
  refine List.foldlRecOn (motive := AirOk) _ _ ?_ fun u hu n _ => ?_
  · exact h
  · exact ⟨hu.1.laneBuild _ n hu.2, TablesOk.airFree.laneBuild TablesOk.shared.toPathKeep.toMessageKeep _ n hu.2⟩

theorem LanesOk.enterStopped {s : State} (h : LanesOk s) : LanesOk s.enterStopped := h

theorem LanesOk.endFinalFrame {s : State} (h : LanesOk s) : LanesOk s.endFinalFrame := by
  have ended : LanesOk (s.mapLanes (Lane.finalEnd s.timebase.stopPending)) := h.mapLanes fun ok => laneOk_finalEnd ok _
  unfold State.endFinalFrame
  dsimp only
  split
  · exact ended
  · exact ended

theorem LanesOk.fireHold {s : State} (h : LanesOk s) : LanesOk s.fireHold := by
  intro n
  rw [State.fireHold_lane]
  exact laneOk_heldBy (h n) _

theorem LanesOk.cycleStart {s : State} (f : LineFrame) (h : LanesOk s) : LanesOk (s.cycleStart f) := by
  have cues : LanesOk ((s.putHold (s.hold.cycleStart s.tables.site.holdLimit)).cueCycleStart f.start) := by
    intro n
    rw [State.cueCycleStart_lane]
    exact laneOk_cycleStart (h n) _ _
  unfold State.cycleStart State.masterCycleStart
  split
  · split
    · dsimp only
      split
      · exact cues
      · exact cues
    · exact cues
  · exact h

theorem AirOk.lanesAtLineStart {s : State} (f : LineFrame) (fire : Option Nat) (order : List LaneNo) (h : AirOk s) :
    AirOk (s.lanesAtLineStart f fire order) := by
  have all (l : List LaneNo) {u : State} (hu : AirOk u) : AirOk (l.foldl (fun s n => s.laneLineStart f n) u) :=
    List.foldlRecOn (motive := AirOk) l _ hu fun _ hv n _ =>
      ⟨hv.1.laneLineStart f n hv.2, TablesOk.airFree.laneLineStart TablesOk.shared.toPathKeep.toMessageKeep f n hv.2⟩
  unfold State.lanesAtLineStart
  split
  · exact all _ h
  · next k =>
    have some := all (order.take k) h
    exact all _ ⟨some.1.fireHold, TablesOk.air.fireHold some.2⟩

theorem AirOk.lineStart {s : State} (fire : Option Nat) (order : List LaneNo) (h : AirOk s) : AirOk (s.lineStart fire order) := by
  have clocked (t : Micros) : AirOk (s.clockTo t) := ⟨h.1.clockTo t, TablesOk.shared.clockTo t h.2⟩
  unfold State.lineStart
  split
  · exact h
  · next f _ =>
    have ended : AirOk (if (s.clockTo f.start).timebase.lastOfGrid then (s.clockTo f.start).endFinalFrame else s.clockTo f.start) := by
      split
      · exact ⟨(clocked _).1.endFinalFrame, TablesOk.airFree.endFinalFrame (clocked _).2⟩
      · exact clocked _
    exact AirOk.lanesAtLineStart _ _ _ ⟨LanesOk.cycleStart (s := State.putTimebase _ _) f ended.1,
      TablesOk.airFree.cycleStart TablesOk.feedFree.holdKeep (s := State.putTimebase _ _) f ended.2⟩

theorem LanesOk.stopAir {s : State} (h : LanesOk s) : LanesOk s.stopAir := by
  have stopped : LanesOk (s.mapLanes Lane.stopAir) := h.mapLanes laneOk_stopAir
  unfold State.stopAir State.stopTimebase
  split
  · exact stopped
  · exact stopped
  · exact stopped
  · split
    · exact stopped
    · split
      · exact stopped
      · exact stopped

theorem LanesOk.takePulse {s : State} (p : Micros) (h : LanesOk s) : LanesOk (s.takePulse p) := by
  unfold State.takePulse
  split
  · exact h
  · exact h
  · split
    · split
      · exact h
      · exact h
    · exact h
  · split
    · exact h
    · exact LanesOk.mapLanes (s := s.latch .syncSlip) (h.latch _) fun ok => laneOk_inBuild ok fun _ => rfl

theorem LanesOk.modCue {s : State} {n : LaneNo} {f : CueLine → CueLine} (h : LanesOk s)
    (bound : s.lanes[n].cue.queue.length ≤ 4 → (f s.lanes[n].cue).queue.length ≤ 4) (busy : s.lanes[n].cue ≠ CueLine.cleared) :
    LanesOk (s.modCue n f) := h.modLane (laneOk_cue (h n) bound fun idle => absurd idle busy)

theorem LanesOk.triggerDue {s : State} (n : LaneNo) (h : LanesOk s) : LanesOk (s.triggerDue n) := by
  unfold State.triggerDue
  split
  · exact h
  · next q rest queue =>
    have same : (s.clockTo q.due).lanes = s.lanes := by simp
    refine (h.clockTo _).modCue (fun bound => ?_) fun idle => ?_
    · rw [CueLine.edgeDue_queue]
      simp only [same] at bound
      rw [queue] at bound
      exact Nat.le_of_succ_le bound
    · simp only [same] at idle
      rw [idle] at queue
      cases queue

theorem LanesOk.phaseEnd {s : State} (n : LaneNo) (h : LanesOk s) : LanesOk (s.phaseEnd n) := by
  unfold State.phaseEnd
  split
  · exact h
  · next t running =>
    have same : (s.clockTo t).lanes = s.lanes := by simp
    refine (h.clockTo _).modCue (fun bound => ?_) fun idle => ?_
    · rw [CueLine.phaseOver_queue]
      exact bound
    · simp only [same] at idle
      rw [idle] at running
      cases running

theorem LanesOk.modCue_onAir {s : State} {n : LaneNo} {f : CueLine → CueLine} (h : LanesOk s) (onAir : s.lanes[n].mode = .onAir)
    (bound : s.lanes[n].cue.queue.length ≤ 4 → (f s.lanes[n].cue).queue.length ≤ 4) : LanesOk (s.modCue n f) := by
  obtain ⟨stack, schedule, requests, cue⟩ := (laneOk_onAir onAir).1 (h n)
  exact h.modLane ((laneOk_onAir (l := { s.lanes[n] with cue := f s.lanes[n].cue }) onAir).2 ⟨stack, schedule, requests, bound cue⟩)

theorem LanesOk.triggerArrives {s : State} (n : LaneNo) (h : LanesOk s) : LanesOk (s.triggerArrives n) := by
  unfold State.triggerArrives
  split
  · exact h
  · next t rest posted =>
    have onAir : s.lanes[n].mode = .onAir := onAir_of_triggers (h n) (by rw [posted]; exact List.cons_ne_nil _ _)
    have taken : LanesOk (s.modLane n (fun l => { l with triggers := rest })) :=
      h.modLane (laneOk_onAir_congr (h n) onAir rfl rfl rfl rfl rfl rfl)
    dsimp only
    split
    · next onAir' =>
      exact (taken.modCue_onAir onAir' (CueLine.arrive_queue _ _ _)).latchIf _ _
    · exact taken

theorem LanesOk.timers {s t : State} (h : LanesOk s) (same : t.lanes = s.lanes) : LanesOk t := by
  intro n
  rw [same]
  exact h n

theorem AirOk.air : AirKeep AirOk where
  startAir h := by
    unfold State.startAir
    split
    · split
      · exact h
      · exact AirOk.earlyBuildAt _ _ h
    · exact h
  stopAir h := ⟨h.1.stopAir, TablesOk.air.stopAir h.2⟩
  switchOn v h := ⟨fun n => by rw [State.mapNamed_lane]; split; exacts [laneOk_switchOn (h.1 n), h.1 n], h.2⟩
  switchOff v h := ⟨fun n => by rw [State.mapNamed_lane]; split; exacts [laneOk_switchOff (h.1 n), h.1 n], h.2⟩
  autoLaneOn h := ⟨fun n => by rw [State.autoLaneOn_lane]; split; exacts [laneOk_switchOn (h.1 n), h.1 n], h.2⟩
  earlyBuild order h := by
    unfold State.earlyBuild
    split
    · exact h
    · exact AirOk.earlyBuildAt _ _ ⟨h.1.clockTo _, TablesOk.shared.clockTo _ h.2⟩
  lineStart := AirOk.lineStart
  ceilings n h := ⟨h.1.modLane (laneOk_ceilings (h.1 n) _), h.2⟩
  fireHold h := ⟨h.1.fireHold, TablesOk.air.fireHold h.2⟩
  finalFrameEnd h := by
    refine ⟨?_, TablesOk.air.finalFrameEnd h.2⟩
    unfold State.finalFrameEnd
    split
    · split
      · exact (h.1.clockTo _).endFinalFrame
      · exact h.1
    · exact h.1
  takePulse p w h := ⟨h.1.takePulse p, TablesOk.air.takePulse p w h.2⟩
  syncPulseMissed h := ⟨h.1.timers (State.syncPulseMissed_lanes _), TablesOk.air.syncPulseMissed h.2⟩
  syncLost h := ⟨h.1.timers (State.syncLost_lanes _), TablesOk.air.syncLost h.2⟩
  masterPulseStart h := ⟨h.1.timers (State.masterPulseStart_lanes _), TablesOk.air.masterPulseStart h.2⟩
  masterPulseEnd h := ⟨h.1.timers (State.masterPulseEnd_lanes _), TablesOk.air.masterPulseEnd h.2⟩
  triggerArrives n h := ⟨h.1.triggerArrives n, TablesOk.air.triggerArrives n h.2⟩
  triggerDue n h := ⟨h.1.triggerDue n, TablesOk.air.triggerDue n h.2⟩
  phaseEnd n h := ⟨h.1.phaseEnd n, TablesOk.air.phaseEnd n h.2⟩

/-- Settles O36: a lane's shape is kept by each operation on a lane; a build needs the entries in range for the ceilings of the levels it enters. -/
theorem laneShapesKept : Obligations.LaneShapesKept := fun _ _ lanes tables stepped =>
  step_leads (P := AirOk) (fun h => h.1) (fun _ h => h) (fun _ h => h)
    (exec_leads (fun h => h.1) (LanesOk.shared.and TablesOk.shared) AirOk.air (LanesOk.presetFree.taken.and TablesOk.taken)
      ((LanesOk.presetFree.controller LanesOk.shared).mono fun h => h.1)) stepped ⟨lanes, tables⟩

end Sys2Proof.Safety
end

section
/-! PROOF. The timebase and the lanes that stand on it (R14, R96, R114 to R118): most of what happens to a lane is calm, and the timebase's own
operations leave it as its state allows. -/

namespace Sys2Proof.Machine

/-! ### What leaves the timebase -/

@[simp] theorem State.titleZone_timebase (s : State) (length : Nat) (text : List Byte) (z : Zone) :
    (s.titleZone length text z).timebase = s.timebase := by
  unfold State.titleZone
  split <;> rfl

@[simp] theorem State.laneBuild_timebase (s : State) (f : LineFrame) (n : LaneNo) : (s.laneBuild f n).timebase = s.timebase := by
  rw [State.laneBuild_eq]
  simp

@[simp] theorem State.laneLineStart_timebase (s : State) (f : LineFrame) (n : LaneNo) : (s.laneLineStart f n).timebase = s.timebase := by
  rw [State.laneLineStart_eq]
  simp

@[simp] theorem State.lanesAtLineStart_timebase (s : State) (f : LineFrame) (fire : Option Nat) (order : List LaneNo) :
    (s.lanesAtLineStart f fire order).timebase = s.timebase := by
  have all (l : List LaneNo) (u : State) : (l.foldl (fun s n => s.laneLineStart f n) u).timebase = u.timebase :=
    List.foldlRecOn (motive := fun v : State => v.timebase = u.timebase) l _ rfl fun v h n _ => (v.laneLineStart_timebase f n).trans h
  unfold State.lanesAtLineStart
  split
  · exact all _ _
  · exact (all _ _).trans ((State.fireHold_timebase _).trans (all _ _))

end Sys2Proof.Machine

namespace Sys2Proof.Safety

open Machine

/-! ### The timebase alone -/

/-- A timebase off the grid holds nothing of it (R114, R116, R118). -/
structure OffGrid (b : Timebase) : Prop where
  counts : b.counts = none
  reference : b.reference = none
  onLine : b.onLine = none
  built : b.built = none
  earlyFor : b.earlyFor = none
  stopPending : b.stopPending = false
  lastOfGrid : b.lastOfGrid = false

theorem OffGrid.congr {b c : Timebase} (h : OffGrid b) (counts : c.counts = b.counts) (reference : c.reference = b.reference)
    (line : c.onLine = b.onLine) (built : c.built = b.built) (early : c.earlyFor = b.earlyFor) (stop : c.stopPending = b.stopPending)
    (last : c.lastOfGrid = b.lastOfGrid) : OffGrid c :=
  ⟨counts.trans h.counts, reference.trans h.reference, line.trans h.onLine, built.trans h.built, early.trans h.earlyFor,
    stop.trans h.stopPending, last.trans h.lastOfGrid⟩

theorem timebaseOk_iff (b : Timebase) :
    timebaseOk b = true ↔ b.misses ≤ 3 ∧ (b.mode.onGrid = false → OffGrid b) ∧
      (b.mode = .stopped → b.expected = none ∧ b.met = false ∧ b.misses = 0) ∧ (b.stopPending = true → b.built = none ∧ b.earlyFor = none) := by
  have offGrid : OffGrid b ↔ (b.counts = none ∧ b.reference = none ∧ b.onLine = none ∧ b.built = none ∧ b.earlyFor = none ∧
      b.stopPending = false ∧ b.lastOfGrid = false) := ⟨fun ⟨a, b, c, d, e, f, g⟩ => ⟨a, b, c, d, e, f, g⟩, fun ⟨a, b, c, d, e, f, g⟩ => ⟨a, b, c, d, e, f, g⟩⟩
  rw [offGrid]
  cases e : b.mode <;> cases h : b.stopPending <;> simp [timebaseOk, TbMode.onGrid, e, h, and_assoc]

theorem timebaseOk_reset (d : Nat) : timebaseOk { Timebase.reset with divisorCount := d } = true := rfl

/-- On the grid with no stop pending, a timebase is as its state allows when it counts at most three misses. -/
theorem timebaseOk_onGrid {b : Timebase} (grid : b.mode.onGrid = true) (going : b.stopPending = false) (misses : b.misses ≤ 3) :
    timebaseOk b = true := by
  refine (timebaseOk_iff b).2 ⟨misses, fun off => by simp [grid] at off, fun stopped => ?_, fun stopping => by simp [going] at stopping⟩
  rw [stopped] at grid
  cases grid

theorem timebaseOk_misses {b : Timebase} (ok : timebaseOk b = true) : b.misses ≤ 3 := ((timebaseOk_iff b).1 ok).1

theorem timebaseOk_offGrid {b : Timebase} (ok : timebaseOk b = true) (off : b.mode.onGrid = false) : OffGrid b :=
  ((timebaseOk_iff b).1 ok).2.1 off

theorem onGrid_of_built {b : Timebase} (ok : timebaseOk b = true) (built : b.built ≠ none) : b.mode.onGrid = true ∧ b.stopPending = false := by
  obtain ⟨-, off, -, stop⟩ := (timebaseOk_iff b).1 ok
  constructor
  · cases grid : b.mode.onGrid
    · exact absurd (off grid).built built
    · rfl
  · cases stopping : b.stopPending
    · rfl
    · exact absurd (stop stopping).1 built

theorem onGrid_of_earlyFor {b : Timebase} (ok : timebaseOk b = true) (early : b.earlyFor ≠ none) :
    b.mode.onGrid = true ∧ b.stopPending = false := by
  obtain ⟨-, off, -, stop⟩ := (timebaseOk_iff b).1 ok
  constructor
  · cases grid : b.mode.onGrid
    · exact absurd (off grid).earlyFor early
    · rfl
  · cases stopping : b.stopPending
    · rfl
    · exact absurd (stop stopping).2 early

theorem onGrid_of_onLine {b : Timebase} (ok : timebaseOk b = true) (line : b.onLine.isSome = true) : b.mode.onGrid = true := by
  cases grid : b.mode.onGrid
  · rw [(timebaseOk_offGrid ok grid).onLine] at line
    cases line
  · rfl

/-- On the grid with a stop pending and nothing to start. -/
theorem timebaseOk_stopping {b : Timebase} (grid : b.mode.onGrid = true) (misses : b.misses ≤ 3) :
    timebaseOk { b with stopPending := true, lastOfGrid := true, built := none, earlyFor := none } = true := by
  refine (timebaseOk_iff _).2 ⟨misses, fun off => ?_, fun stopped => ?_, fun _ => ⟨rfl, rfl⟩⟩
  · rw [show b.mode.onGrid = false from off] at grid
    cases grid
  · rw [show b.mode = .stopped from stopped] at grid
    cases grid

/-! ### The timebase and a lane -/

/-- A lane that is ON_AIR stands on this timebase. -/
def standsOn (b : Timebase) (l : Lane) : Prop :=
  l.mode = .onAir → b.mode.onGrid = true ∧ b.reference.isSome = true ∧ (b.stopPending = true → l.stop ≠ .none) ∧ (b.onLine = none → l.onLine = none)

theorem timebaseOk_of {s : State} (ok : timebaseOk s.timebase = true) (lanes : ∀ n : LaneNo, standsOn s.timebase s.lanes[n]) : TimebaseOk s :=
  ⟨ok, lanes⟩

/-- A lane changes from `l` to `m` without coming on air, losing its stop request or putting a frame on its line. -/
def Calm (l m : Lane) : Prop :=
  m.mode = .onAir → l.mode = .onAir ∧ (l.stop ≠ .none → m.stop ≠ .none) ∧ (l.onLine = none → m.onLine = none)

theorem Calm.of_eq {l m : Lane} (mode : m.mode = l.mode) (stop : m.stop = l.stop) (line : m.onLine = l.onLine) : Calm l m := fun h =>
  ⟨mode ▸ h, stop ▸ id, line ▸ id⟩

theorem Calm.refl (l : Lane) : Calm l l := .of_eq rfl rfl rfl

theorem Calm.offAir {l m : Lane} (h : m.mode ≠ .onAir) : Calm l m := fun e => absurd e h

theorem Calm.trans {l m k : Lane} (h : Calm l m) (h' : Calm m k) : Calm l k := fun e =>
  have ⟨onAir, stop', line'⟩ := h' e
  have ⟨onAir', stop, line⟩ := h onAir
  ⟨onAir', stop' ∘ stop, line' ∘ line⟩

theorem standsOn.calm {b : Timebase} {l m : Lane} (h : standsOn b l) (calm : Calm l m) : standsOn b m := fun e =>
  have ⟨onAir, stop, line⟩ := calm e
  have ⟨grid, reference, stopping, idle⟩ := h onAir
  ⟨grid, reference, stop ∘ stopping, line ∘ idle⟩

/-- What leaves the timebase and is calm for every lane keeps the two as they stand. -/
theorem TimebaseOk.calm {s t : State} (h : TimebaseOk s) (timebase : t.timebase = s.timebase)
    (lanes : ∀ n : LaneNo, Calm s.lanes[n] t.lanes[n]) : TimebaseOk t := by
  refine timebaseOk_of ?_ fun n => ?_
  · rw [timebase]
    exact h.1
  · rw [timebase]
    exact standsOn.calm (h.2 n) (lanes n)

theorem TimebaseOk.same {s t : State} (h : TimebaseOk s) (timebase : t.timebase = s.timebase) (lanes : t.lanes = s.lanes) : TimebaseOk t :=
  h.calm timebase fun n => by rw [lanes]; exact .refl _

/-- With no lane ON_AIR the timebase alone decides. -/
theorem TimebaseOk.offAir {s : State} (ok : timebaseOk s.timebase = true) (lanes : ∀ n : LaneNo, s.lanes[n].mode ≠ .onAir) : TimebaseOk s :=
  timebaseOk_of ok fun n onAir => absurd onAir (lanes n)

/-- On the grid, with a reference, a frame on the line and no stop pending, a lane may do anything. -/
theorem TimebaseOk.onAir {s : State} (grid : s.timebase.mode.onGrid = true) (reference : s.timebase.reference.isSome = true)
    (going : s.timebase.stopPending = false) (line : s.timebase.onLine.isSome = true) (misses : s.timebase.misses ≤ 3) : TimebaseOk s := by
  refine timebaseOk_of (timebaseOk_onGrid grid going misses) fun n _ => ⟨grid, reference, fun stopping => ?_, fun idle => ?_⟩
  · rw [going] at stopping
    cases stopping
  · rw [idle] at line
    cases line

/-- Off the grid no lane is ON_AIR. -/
theorem TimebaseOk.no_lane {s : State} (h : TimebaseOk s) (off : s.timebase.mode.onGrid = false) (n : LaneNo) : s.lanes[n].mode ≠ .onAir := by
  intro onAir
  obtain ⟨grid, -⟩ := h.2 n onAir
  rw [off] at grid
  cases grid

/-! ### Calm operations on a lane -/

theorem Calm.heldBy (l : Lane) (b : Bool) : Calm l (l.heldBy b) := by
  rw [Lane.heldBy_eq]
  exact .of_eq rfl rfl rfl

theorem Calm.request (l : Lane) (z : Zone) : Calm l (l.request z) := by
  unfold Lane.request
  split
  · split
    · exact .of_eq rfl rfl rfl
    · exact .refl l
  · split
    · exact .of_eq rfl rfl rfl
    · exact .refl l

theorem Calm.titleChanged (l : Lane) (own z : Zone) : Calm l (l.titleChanged own z) := by
  unfold Lane.titleChanged
  split
  · exact (Calm.of_eq (m := { l with segs := l.segs.put (.title z) 0 }) rfl rfl rfl).trans (Calm.request _ z)
  · exact .refl l

theorem Calm.cleared (l : Lane) (toOff : Bool) : Calm l (l.cleared toOff) := .offAir (by cases toOff <;> simp [Lane.cleared])

theorem Calm.build (x : Store) (f : LineFrame) (l : Lane) : Calm l (x.build f l).lane :=
  .of_eq (x.build_mode f l) (x.build_stop f l) (x.build_onLine f l)

theorem Calm.atBuild (x : Store) (f : LineFrame) (onGrid : Bool) (l : Lane) : Calm l (x.atBuild f onGrid l).lane := by
  unfold Store.atBuild
  split
  · exact .refl l
  · dsimp only
    split
    · exact .of_eq rfl rfl rfl
    · exact .refl l
  · exact Calm.build x f l

theorem Calm.switchOn (l : Lane) : Calm l l.switchOn := by
  unfold Lane.switchOn
  split
  · exact .offAir (by simp)
  · exact .refl l
  · split
    · exact fun onAir => ⟨onAir, fun _ => by simp, id⟩
    · exact .refl l

theorem Calm.switchOff (l : Lane) : Calm l l.switchOff := by
  unfold Lane.switchOff
  split
  · exact .refl l
  · exact Calm.cleared l true
  · split
    · exact fun onAir => ⟨onAir, fun _ => by simp, id⟩
    · exact Calm.cleared l true

/-- STOP AIR leaves on air only a lane with a frame on its line, and that with a stop request (R14). -/
theorem stopAir_onAir {l : Lane} (h : l.stopAir.mode = .onAir) : l.mode = .onAir ∧ l.onLine.isSome = true ∧ l.stopAir.stop ≠ .none ∧
    l.stopAir.onLine = l.onLine := by
  unfold Lane.stopAir at h ⊢
  split at h
  · next off => simp [off] at h
  · next waiting => simp [waiting] at h
  · next onAir =>
    rw [onAir]
    split at h
    · next line =>
      rw [if_pos line]
      split
      · exact ⟨rfl, line, by simp, rfl⟩
      · next stop => exact ⟨rfl, line, stop, rfl⟩
    · simp only [Lane.cleared] at h
      split at h <;> cases h

theorem Calm.stopAir (l : Lane) : Calm l l.stopAir := fun h =>
  have ⟨onAir, _, stop, line⟩ := stopAir_onAir h
  ⟨onAir, fun _ => stop, fun e => line.trans e⟩

/-- A final frame end leaves on air only a lane with no stop request, and its line idle (R115). -/
theorem finalEnd_onAir {l : Lane} {stopping : Bool} (h : (l.finalEnd stopping).mode = .onAir) :
    l.mode = .onAir ∧ l.stop = .none ∧ (l.finalEnd stopping).stop = .none ∧ (l.finalEnd stopping).onLine = none := by
  unfold Lane.finalEnd at h ⊢
  split at h
  · next off => simp [off] at h
  · next waiting =>
    split at h <;> simp [waiting] at h
  · next onAir =>
    rw [onAir]
    split at h
    · next stop =>
      rw [if_pos stop]
      exact ⟨rfl, stop, stop, rfl⟩
    · simp only [Lane.actOnStop, Lane.cleared] at h
      split at h <;> cases h

/-! ### The shared operations -/

theorem TimebaseOk.latch {s : State} (e : Event) (h : TimebaseOk s) : TimebaseOk (s.latch e) := h.same (by simp) (by simp)

theorem TimebaseOk.latchIf {s : State} (b : Bool) (e : Event) (h : TimebaseOk s) : TimebaseOk (s.latchIf b e) := h.same (by simp) (by simp)

theorem TimebaseOk.clockTo {s : State} (t : Micros) (h : TimebaseOk s) : TimebaseOk (s.clockTo t) := h.same (by simp) (by simp)

theorem TimebaseOk.syncHold {s : State} (h : TimebaseOk s) : TimebaseOk s.syncHold := h.calm (by simp) fun n => by
  rw [State.syncHold_lane]
  exact Calm.heldBy _ _

theorem TimebaseOk.putFeedState {s : State} (x : FeedState) (h : TimebaseOk s) : TimebaseOk (s.putFeedState x) := TimebaseOk.syncHold h

theorem TimebaseOk.modLane {s : State} {n : LaneNo} {f : Lane → Lane} (h : TimebaseOk s) (calm : Calm s.lanes[n] (f s.lanes[n])) :
    TimebaseOk (s.modLane n f) := h.calm (by simp) fun m => by
  rw [State.modLane_lane]
  split
  · next same => exact same ▸ calm
  · exact .refl _

theorem TimebaseOk.reset {s : State} (timebase : s.timebase = Timebase.reset) (lanes : s.lanes = Vector.replicate 4 Lane.reset) :
    TimebaseOk s := by
  refine .offAir (by rw [timebase]; rfl) fun n => ?_
  have lane : s.lanes[n] = Lane.reset := by simp [lanes]
  rw [lane]
  exact fun e => by cases e

theorem TimebaseOk.shared : SharedKeep TimebaseOk where
  hardReset _ _ := TimebaseOk.reset rfl rfl
  restart _ _ := TimebaseOk.reset rfl rfl
  clockAt _ h := h
  latch := TimebaseOk.latch
  queueAnswer _ h := h.same (by simp) (by simp)
  answers _ _ _ h := h
  feed _ h := h
  guard _ h := h
  lostAt _ h := h
  recordOutcome := recordOutcome_keeps (P := TimebaseOk) (fun _ h => h) (fun _ h => h) TimebaseOk.putFeedState TimebaseOk.latch
  feedLost := feedLost_keeps (P := TimebaseOk) TimebaseOk.putFeedState TimebaseOk.latch
  recent _ _ h := h
  titleZone text z _ _ h := h.calm (State.titleZone_timebase _ _ _ _) fun n => by
    rw [State.titleZone_lane]
    split
    · exact .refl _
    · exact Calm.titleChanged _ _ z
  takeRecord n r h := by
    unfold State.takeRecord
    split
    · dsimp only
      split
      · exact (h.latchIf _ _).modLane (.of_eq rfl rfl rfl)
      · exact (h.latchIf _ _).latch _
    · exact h
  sendRecord _ _ _ h := h.modLane (.of_eq rfl rfl rfl)
  dropRecord _ _ h := h.modLane (.of_eq rfl rfl rfl)

theorem TimebaseOk.presetFree : PresetFree TimebaseOk where
  changeTables T h := h.calm (by simp) fun n => by
    rw [State.changeTables_lane]
    refine Calm.trans ?_ (Calm.heldBy _ _)
    split
    · exact .refl _
    · exact .of_eq rfl rfl rfl
  protect _ h := h
  frozen _ h := h
  preset _ h := h
  memory _ h := h

/-! ### The timebase's own operations -/

theorem TimebaseOk.laneBuild {s : State} (f : LineFrame) (n : LaneNo) (h : TimebaseOk s) : TimebaseOk (s.laneBuild f n) := by
  refine h.calm (by simp) fun m => ?_
  rw [State.laneBuild_eq]
  have put := s.putLane_lane n m ((s.store n).atBuild f s.timebase.mode.onGrid s.lanes[n]).lane
  rw [State.latchAll_lanes, put]
  split
  · next same => exact same ▸ Calm.atBuild _ _ _ _
  · exact .refl _

/-- An early build on the grid, with no stop pending. -/
theorem TimebaseOk.earlyBuildAt {s : State} (start : Micros) (order : List LaneNo) (h : TimebaseOk s) (grid : s.timebase.mode.onGrid = true)
    (going : s.timebase.stopPending = false) : TimebaseOk (s.earlyBuildAt start order) := by
  refine List.foldlRecOn (motive := TimebaseOk) _ _ ?_ fun u hu n _ => hu.laneBuild _ n
  exact timebaseOk_of (timebaseOk_onGrid grid going (timebaseOk_misses (b := s.timebase) h.1)) h.2

theorem TimebaseOk.enterStopped {s : State} (lanes : ∀ n : LaneNo, s.lanes[n].mode ≠ .onAir) : TimebaseOk s.enterStopped :=
  .offAir (timebaseOk_reset _) lanes

theorem TimebaseOk.endFinalFrame {s : State} (h : TimebaseOk s) : TimebaseOk s.endFinalFrame := by
  have lane (n : LaneNo) : (s.mapLanes (Lane.finalEnd s.timebase.stopPending)).lanes[n] = s.lanes[n].finalEnd s.timebase.stopPending :=
    s.mapLanes_lane _ n
  unfold State.endFinalFrame
  dsimp only
  split
  · next stopping =>
    refine TimebaseOk.enterStopped fun n onAir => ?_
    have left : (s.lanes[n].finalEnd s.timebase.stopPending).mode = .onAir := (congrArg Lane.mode (lane n) :).symm.trans onAir
    obtain ⟨wasOnAir, stop, -⟩ := finalEnd_onAir left
    obtain ⟨-, -, stops, -⟩ := h.2 n wasOnAir
    exact stops stopping stop
  · next going =>
    obtain ⟨misses, off, stopped, -⟩ := (timebaseOk_iff _).1 h.1
    refine timebaseOk_of ((timebaseOk_iff _).2 ⟨misses, fun e => ?_, stopped, fun e => absurd e going⟩) fun n onAir => ?_
    · obtain ⟨counts, reference, -, built, earlyFor, stopPending, -⟩ := off e
      exact ⟨counts, reference, rfl, built, earlyFor, stopPending, rfl⟩
    · have left : (s.lanes[n].finalEnd s.timebase.stopPending).mode = .onAir := (congrArg Lane.mode (lane n) :).symm.trans onAir
      obtain ⟨wasOnAir, -, -, idle⟩ := finalEnd_onAir left
      obtain ⟨grid, reference, -, -⟩ := h.2 n wasOnAir
      exact ⟨grid, reference, fun e => absurd e going, fun _ => (congrArg Lane.onLine (lane n) :).trans idle⟩

theorem TimebaseOk.timebase {s : State} {b : Timebase} (ok : timebaseOk b = true) (lanes : ∀ n : LaneNo, standsOn b s.lanes[n]) :
    TimebaseOk (s.putTimebase b) := ⟨ok, lanes⟩

/-- The misses, the expected pulse and the divisor counter are no part of what a lane stands on. -/
theorem TimebaseOk.pulses {s : State} {b : Timebase} (h : TimebaseOk s) (ok : timebaseOk b = true)
    (grid : s.timebase.mode.onGrid = true → b.mode.onGrid = true) (reference : b.reference = s.timebase.reference)
    (stop : b.stopPending = s.timebase.stopPending) (line : b.onLine = s.timebase.onLine) : TimebaseOk (s.putTimebase b) := by
  refine .timebase ok fun n onAir => ?_
  rw [reference, stop, line]
  obtain ⟨onGrid, rest⟩ := h.2 n onAir
  exact ⟨grid onGrid, rest⟩

theorem TimebaseOk.stopAir {s : State} (h : TimebaseOk s) : TimebaseOk s.stopAir := by
  have lane (n : LaneNo) : (s.mapLanes Lane.stopAir).lanes[n] = s.lanes[n].stopAir := s.mapLanes_lane _ n
  have calm : TimebaseOk (s.mapLanes Lane.stopAir) := h.calm (by simp) fun n => by rw [lane]; exact Calm.stopAir _
  have off (e : s.timebase.mode.onGrid = false) : TimebaseOk (s.mapLanes Lane.stopAir).enterStopped := .enterStopped (calm.no_lane e)
  have left {n : LaneNo} (onAir : (s.mapLanes Lane.stopAir).lanes[n].mode = .onAir) := stopAir_onAir (lane n ▸ onAir)
  unfold State.stopAir State.stopTimebase
  split
  · exact calm
  · next mode => exact off (by rw [show s.timebase.mode = _ from mode]; rfl)
  · next mode => exact off (by rw [show s.timebase.mode = _ from mode]; rfl)
  · split
    · exact calm
    · split
      · next line =>
        have grid : s.timebase.mode.onGrid = true := onGrid_of_onLine h.1 line
        refine .timebase (timebaseOk_stopping grid (timebaseOk_misses h.1)) fun n onAir => ?_
        obtain ⟨wasOnAir, -, stop, -⟩ := left onAir
        obtain ⟨-, reference, -, noLine⟩ := h.2 n wasOnAir
        refine ⟨grid, reference, fun _ => ?_, fun e => ?_⟩
        · rw [lane]
          exact stop
        · rw [show (s.mapLanes Lane.stopAir).timebase.onLine = none from e] at line
          cases line
      · next idle =>
        refine TimebaseOk.enterStopped fun n onAir => ?_
        obtain ⟨wasOnAir, line, -⟩ := left onAir
        obtain ⟨-, -, -, noLine⟩ := h.2 n wasOnAir
        rw [noLine (by simpa using idle)] at line
        cases line

theorem TimebaseOk.startAir {s : State} (h : TimebaseOk s) : TimebaseOk s.startAir := by
  unfold State.startAir
  split
  · next stopped =>
    have off : ∀ n : LaneNo, s.lanes[n].mode ≠ .onAir := h.no_lane (by rw [stopped]; rfl)
    split
    · exact .offAir rfl off
    · exact TimebaseOk.earlyBuildAt (s := s.putTimebase _) _ _ (.offAir rfl off) rfl rfl
  · exact h

theorem TimebaseOk.fireHold {s : State} (h : TimebaseOk s) : TimebaseOk s.fireHold := h.calm (by simp) fun n => by
  rw [State.fireHold_lane]
  exact Calm.heldBy _ _

theorem masterCycleStart_timebase (s : State) (t : Micros) :
    ∃ d, (s.masterCycleStart t).timebase = { s.timebase with divisorCount := d } := by
  unfold State.masterCycleStart
  split
  · dsimp only
    split
    · exact ⟨_, rfl⟩
    · exact ⟨_, rfl⟩
  · exact ⟨s.timebase.divisorCount, rfl⟩

/-- A cycle start changes of the timebase the divisor counter alone. -/
theorem State.cycleStart_timebase (s : State) (f : LineFrame) : ∃ d, (s.cycleStart f).timebase = { s.timebase with divisorCount := d } := by
  unfold State.cycleStart
  split
  · exact masterCycleStart_timebase _ _
  · exact ⟨s.timebase.divisorCount, rfl⟩

/-- The end of a frame of an old grid before a line start, with no stop pending, leaves mode, stop and misses. -/
theorem State.endIfLast_timebase {s : State} (going : s.timebase.stopPending = false) :
    ∃ line last, (if s.timebase.lastOfGrid then s.endFinalFrame else s).timebase =
      { s.timebase with onLine := line, lastOfGrid := last } := by
  split
  · refine ⟨none, false, ?_⟩
    unfold State.endFinalFrame
    simp [going]
  · exact ⟨s.timebase.onLine, s.timebase.lastOfGrid, rfl⟩

theorem TimebaseOk.lineStart {s : State} (fire : Option Nat) (order : List LaneNo) (h : TimebaseOk s) : TimebaseOk (s.lineStart fire order) := by
  unfold State.lineStart
  split
  · exact h
  · next f built =>
    obtain ⟨grid, going⟩ := onGrid_of_built h.1 (by rw [built]; exact Option.some_ne_none f)
    have misses := timebaseOk_misses h.1
    have clocked : (s.clockTo f.start).timebase = s.timebase := by simp
    obtain ⟨line, last, ended⟩ := State.endIfLast_timebase (s := s.clockTo f.start) (by rw [clocked]; exact going)
    dsimp only
    set u := if (s.clockTo f.start).timebase.lastOfGrid then (s.clockTo f.start).endFinalFrame else s.clockTo f.start
    rw [clocked] at ended
    obtain ⟨d, cycle⟩ := State.cycleStart_timebase
      (u.putTimebase { u.timebase with reference := some ⟨f.number, f.start⟩, onLine := some f, lastOfGrid := false, built := none }) f
    apply TimebaseOk.onAir <;> rw [State.lanesAtLineStart_timebase, State.putTimebase_timebase, cycle, State.putTimebase_timebase, ended]
    · exact grid
    · rfl
    · exact going
    · rfl
    · exact misses

theorem State.going_of_watches {s : State} (watches : s.watchesSync = true) : s.timebase.stopPending = false := by
  simp only [State.watchesSync, Bool.and_eq_true, Bool.not_eq_true'] at watches
  exact watches.2

theorem TimebaseOk.takePulse {s : State} (p : Micros) (watches : s.watchesSync = true) (h : TimebaseOk s) : TimebaseOk (s.takePulse p) := by
  have going := State.going_of_watches watches
  have prime (off : s.timebase.mode.onGrid = false) : TimebaseOk (s.prime p) := by
    obtain ⟨counts, reference, line, built, early, stop, last⟩ := timebaseOk_offGrid h.1 off
    refine .offAir ((timebaseOk_iff _).2 ⟨timebaseOk_misses (b := s.timebase) h.1, fun _ => ⟨counts, reference, line, built, early, stop, last⟩, ?_, ?_⟩) (h.no_lane off)
    · exact fun e => by cases e
    · exact fun _ => ⟨built, early⟩
  unfold State.takePulse
  split
  · exact h
  · next mode => exact prime (by rw [mode]; rfl)
  · next mode =>
    have off : s.timebase.mode.onGrid = false := by rw [mode]; rfl
    split
    · split
      · exact .offAir (timebaseOk_onGrid rfl going (Nat.zero_le _)) (h.no_lane off)
      · exact prime off
    · exact prime off
  · split
    · exact h.pulses (timebaseOk_onGrid rfl going (Nat.zero_le _)) (fun _ => rfl) rfl rfl rfl
    · have slipped : TimebaseOk ((s.latch .syncSlip).mapLanes Lane.slipped) := (h.latch _).calm (by simp) fun n => by
        rw [State.mapLanes_lane]
        exact .of_eq rfl rfl rfl
      have same : (s.latch .syncSlip).timebase = s.timebase := by simp
      have going' : (s.latch .syncSlip).timebase.stopPending = false := by rw [same]; exact going
      exact slipped.pulses (timebaseOk_onGrid rfl going' (Nat.zero_le _)) (fun _ => rfl) rfl rfl rfl

theorem TimebaseOk.syncPulseMissed {s : State} (h : TimebaseOk s) : TimebaseOk s.syncPulseMissed := by
  unfold State.syncPulseMissed
  split
  · next watches =>
    have going := State.going_of_watches watches
    split
    · exact h
    · next e _ =>
      have clocked := h.clockTo (e + micros (Config.windowMicros + 1))
      have going' : (s.clockTo (e + micros (Config.windowMicros + 1))).timebase.stopPending = false := by simpa using going
      have misses := timebaseOk_misses clocked.1
      dsimp only
      split
      · next mode =>
        have grid : (s.clockTo (e + micros (Config.windowMicros + 1))).timebase.mode.onGrid = true := by rw [mode]; rfl
        refine clocked.pulses (timebaseOk_onGrid grid going' ?_) id rfl rfl rfl
        dsimp only
        split <;> omega
      · next mode =>
        have grid : (s.clockTo (e + micros (Config.windowMicros + 1))).timebase.mode.onGrid = true := by rw [mode]; rfl
        exact clocked.pulses (timebaseOk_onGrid grid going' misses) id rfl rfl rfl
      · next mode =>
        obtain ⟨-, off, -, stop⟩ := (timebaseOk_iff _).1 clocked.1
        have priming (e' : (s.clockTo (e + micros (Config.windowMicros + 1))).timebase.mode = .stopped) : False := by
          rw [mode] at e'
          cases e'
        exact clocked.pulses ((timebaseOk_iff _).2 ⟨misses, fun e => (off e).congr rfl rfl rfl rfl rfl rfl rfl, fun e => (priming e).elim, stop⟩)
          id rfl rfl rfl
      · exact clocked
  · exact h

theorem TimebaseOk.air : AirKeep TimebaseOk where
  startAir := TimebaseOk.startAir
  stopAir := TimebaseOk.stopAir
  switchOn v h := h.calm rfl fun n => by rw [State.mapNamed_lane]; split; exacts [Calm.switchOn _, .refl _]
  switchOff v h := h.calm rfl fun n => by rw [State.mapNamed_lane]; split; exacts [Calm.switchOff _, .refl _]
  autoLaneOn h := h.calm rfl fun n => by rw [State.autoLaneOn_lane]; split; exacts [Calm.switchOn _, .refl _]
  earlyBuild order h := by
    unfold State.earlyBuild
    split
    · exact h
    · next early =>
      obtain ⟨grid, going⟩ := onGrid_of_earlyFor h.1 (by rw [early]; exact Option.some_ne_none _)
      exact (h.clockTo _).earlyBuildAt _ _ (by simpa using grid) (by simpa using going)
  lineStart := TimebaseOk.lineStart
  ceilings n h := h.modLane (.of_eq rfl rfl rfl)
  fireHold := TimebaseOk.fireHold
  finalFrameEnd h := by
    unfold State.finalFrameEnd
    split
    · split
      · exact (h.clockTo _).endFinalFrame
      · exact h
    · exact h
  takePulse := TimebaseOk.takePulse
  syncPulseMissed := TimebaseOk.syncPulseMissed
  syncLost {s} h := by
    unfold State.syncLost
    split
    · next watches =>
      simp only [Bool.and_eq_true] at watches
      obtain ⟨⟨watches, -⟩, -⟩ := watches
      exact TimebaseOk.latch _ (h.pulses (timebaseOk_onGrid rfl (State.going_of_watches watches) (timebaseOk_misses (b := s.timebase) h.1))
        (fun _ => rfl) rfl rfl rfl)
    · exact h
  masterPulseStart h := by
    unfold State.masterPulseStart
    split
    · exact h
    · exact h.clockTo _
  masterPulseEnd h := by
    unfold State.masterPulseEnd
    split
    · exact h
    · exact h.clockTo _
  triggerArrives n h := by
    unfold State.triggerArrives
    split
    · exact h
    · dsimp only
      split
      · exact ((h.modLane (.of_eq rfl rfl rfl)).modLane (.of_eq rfl rfl rfl)).latchIf _ _
      · exact h.modLane (.of_eq rfl rfl rfl)
  triggerDue n h := by
    unfold State.triggerDue
    split
    · exact h
    · exact (h.clockTo _).modLane (.of_eq rfl rfl rfl)
  phaseEnd n h := by
    unfold State.phaseEnd
    split
    · exact h
    · exact (h.clockTo _).modLane (.of_eq rfl rfl rfl)

/-- Settles O54: what happens to a lane is calm but for its joining, and that falls on the grid; the timebase's own operations are few. -/
theorem timebaseKept : Obligations.TimebaseKept := fun _ _ h stepped =>
  step_leads (fun h => h) (fun _ h => h) (fun _ h => h)
    (exec_leads (fun h => h) TimebaseOk.shared TimebaseOk.air TimebaseOk.presetFree.taken (TimebaseOk.presetFree.controller TimebaseOk.shared))
    stepped h

end Sys2Proof.Safety
end

section
/-! PROOF. The frozen values (R170, R171): no write passes its checks with others, and every placement puts them back. -/

namespace Sys2Proof.Safety

open Machine

/-- The LANE entries hold the frozen values of every frozen lane. -/
def HoldsFrozen (frozen : Vector (Option Frozen) 4) (T : Tables) : Prop :=
  ∀ (n : LaneNo) (f : Frozen), frozen[n] = some f → T.lane[n].station = f.station ∧ T.lane[n].zone = f.zone

/-- The LANE entry of a lane whose freeze record is being written holds the values being written. -/
def HoldsFreezing (op : PresetOp) (T : Tables) : Prop :=
  ∀ f : Freezing, op = .freezing f → T.lane[f.lane].station = f.station ∧ T.lane[f.lane].zone = f.zone

theorem frozenOk_iff (s : State) : FrozenOk s ↔ HoldsFrozen s.frozen s.tables ∧ HoldsFreezing s.preset.op s.tables := Iff.rfl

theorem HoldsFreezing.of_ne {op : PresetOp} {T : Tables} (h : ∀ f, op ≠ .freezing f) : HoldsFreezing op T := fun f e => absurd e (h f)

theorem FrozenOk.same {s t : State} (h : FrozenOk s) (tables : t.tables = s.tables) (frozen : t.frozen = s.frozen)
    (op : t.preset.op = s.preset.op) : FrozenOk t := by
  rw [frozenOk_iff, tables, frozen, op]
  exact h

theorem FrozenOk.airFree : AirFree FrozenOk := ⟨fun _ h => h, fun _ h => h, fun _ h => h⟩

theorem FrozenOk.feedFree : FeedFree FrozenOk := ⟨fun _ h => h, fun _ h => h, fun _ h => h.same (by simp) (by simp) (by simp)⟩

theorem FrozenOk.latch {s : State} (e : Event) (h : FrozenOk s) : FrozenOk (s.latch e) := FrozenOk.feedFree.latch e h

theorem FrozenOk.latchIf {s : State} (b : Bool) (e : Event) (h : FrozenOk s) : FrozenOk (s.latchIf b e) :=
  h.same (by simp) (by simp) (by simp)

theorem FrozenOk.reset {s : State} (frozen : s.frozen = Vector.replicate 4 none) (op : ∀ f, s.preset.op ≠ .freezing f) : FrozenOk s := by
  refine ⟨fun n f e => ?_, HoldsFreezing.of_ne op⟩
  rw [frozen] at e
  simp at e

theorem FrozenOk.shared : SharedKeep FrozenOk where
  hardReset _ _ := FrozenOk.reset rfl fun _ e => by cases e
  restart _ _ := FrozenOk.reset rfl fun _ e => by cases e
  clockAt _ h := h
  latch := FrozenOk.latch
  queueAnswer _ h := h.same (by simp) (by simp) (by simp)
  answers _ _ _ h := h
  feed _ h := h
  guard _ h := h
  lostAt _ h := h
  recordOutcome := FrozenOk.feedFree.recordOutcome FrozenOk.airFree
  feedLost := FrozenOk.feedFree.feedLost FrozenOk.airFree
  recent _ _ h := h
  titleZone text z _ _ := FrozenOk.airFree.titleZone (fun _ h => h) _ text z
  takeRecord := FrozenOk.airFree.takeRecord FrozenOk.latch
  sendRecord _ _ _ h := h
  dropRecord _ _ h := h

theorem FrozenOk.changeTables {s : State} {T : Tables} (frozen : HoldsFrozen s.frozen T) (op : HoldsFreezing s.preset.op T) :
    FrozenOk (s.changeTables T) := by
  rw [frozenOk_iff, State.changeTables_tables, State.changeTables_frozen, State.changeTables_preset]
  exact ⟨frozen, op⟩

theorem FrozenOk.putOp {s : State} (h : FrozenOk s) (op : PresetOp) (other : ∀ f, op ≠ .freezing f) : FrozenOk (s.putOp op) :=
  ⟨h.1, HoldsFreezing.of_ne other⟩

theorem FrozenOk.putMemory {s : State} (h : FrozenOk s) (m : PresetMemory) : FrozenOk (s.putMemory m) := h

theorem FrozenOk.putAnswers {s : State} (h : FrozenOk s) (u : AnswerUnit) : FrozenOk (s.putAnswers u) := h

theorem FrozenOk.putProtect {s : State} (h : FrozenOk s) (p : Protect) : FrozenOk (s.putProtect p) := h

theorem FrozenOk.putCondition {s : State} (h : FrozenOk s) (c : MemCondition) : FrozenOk (s.putCondition c) := h

theorem FrozenOk.reply {s : State} (h : FrozenOk s) (r : Reply) (x : Result) (d : List Byte) : FrozenOk (s.reply r x d) :=
  FrozenOk.shared.reply r x d h

/-! ### WRITE TABLE -/

/-- An entry that the freeze does not refuse leaves the frozen values (R170). -/
theorem HoldsFrozen.store {s : State} {T : Tables} {t i : Nat} {l : List Byte} (h : HoldsFrozen s.frozen T)
    (passed : s.frozenEntry t i l = false) : HoldsFrozen s.frozen (T.store t i l) := by
  intro n f frozen
  by_cases lane : t = 1
  · subst lane
    cases parsed : LaneEntry.parse l with
    | none => simpa [Tables.store, parsed] using h n f frozen
    | some e =>
      have stored : (T.store 1 i l).lane[n] = if i = n.val then e else T.lane[n] := by
        simp [Tables.store, parsed, Vector.getElem_setIfInBounds]
      rw [stored]
      split
      · next same =>
        have held : s.frozen[i]? = some (some f) := by
          subst same
          simpa using frozen
        simpa [State.frozenEntry, parsed, held] using passed
      · exact h n f frozen
  · have same : (T.store t i l).lane = T.lane := by
      rw [Tables.store_eq]
      unfold Tables.copyTable
      split
      · exact absurd rfl lane
      all_goals rfl
    rw [same]
    exact h n f frozen

theorem HoldsFrozen.storeAll {s : State} {T : Tables} {t i : Nat} {l : List (List Byte)} (h : HoldsFrozen s.frozen T)
    (passed : ∀ e ∈ l.zipIdx i, s.frozenEntry t e.2 e.1 = false) : HoldsFrozen s.frozen (T.storeAll t i l) := by
  induction l generalizing T i with
  | nil => exact h
  | cons e rest ih =>
    simp only [List.zipIdx_cons, List.forall_mem_cons] at passed
    exact ih (h.store passed.1) passed.2

/-- A WRITE TABLE passes its checks when none of the conditions of R147 holds. -/
theorem State.writeRefusal_eq_none {s : State} {args : List Byte} :
    s.writeRefusal args = none ↔ noSuchTable args = false ∧ writeMalformed args = false ∧ (WriteArgs.read args).table ≠ 9 ∧
      s.presetBusy = false ∧ s.protectFlag (WriteArgs.read args).table = false ∧ (WriteArgs.read args).count ≠ 0 ∧
      (WriteArgs.read args).first + (WriteArgs.read args).count ≤ entryCount (WriteArgs.read args).table ∧
      (∀ l ∈ (WriteArgs.read args).entries, entryOk (WriteArgs.read args).table l = true) ∧ s.writeOnAir (WriteArgs.read args) = false ∧
      (WriteArgs.read args).anyEntry (s.urgentEntry (WriteArgs.read args).table) = false ∧
      (WriteArgs.read args).anyEntry (s.frozenEntry (WriteArgs.read args).table) = false := by
  unfold State.writeRefusal
  dsimp only
  generalize (WriteArgs.read args).anyEntry (s.frozenEntry (WriteArgs.read args).table) = frozen
  generalize (WriteArgs.read args).anyEntry (s.urgentEntry (WriteArgs.read args).table) = urgent
  simp [firstRefusal_eq_none, State.refuseBusy, and_assoc]

theorem FrozenOk.taken : TakenKeep FrozenOk where
  write {s} args passed h := by
    obtain ⟨-, -, -, idle, -, -, -, -, -, -, unfrozen⟩ := State.writeRefusal_eq_none.1 passed
    refine FrozenOk.changeTables (HoldsFrozen.storeAll h.1 fun e m => ?_) (.of_ne fun f e => ?_)
    · simp only [WriteArgs.anyEntry, List.any_eq_false, Bool.not_eq_true] at unfrozen
      exact unfrozen e m
    · simp [State.presetBusy, e] at idle
  protect _ h := h
  saving _ _ h := h.putOp _ fun _ e => by cases e
  reloading _ _ _ h := h.putOp _ fun _ e => by cases e
  freezing n r _ h := ⟨h.1, fun f e => by cases e; exact ⟨rfl, rfl⟩⟩
  idle h := h.putOp _ fun _ e => by cases e

/-! ### Placements and freeze records -/

theorem HoldsFrozen.keepFrozen (s : State) (T : Tables) : HoldsFrozen s.frozen (s.keepFrozen T) := by
  intro n f frozen
  have frozen' : s.frozen[n.val] = some f := frozen
  simp [State.keepFrozen, frozen']

theorem FrozenOk.place {s : State} (T : Tables) (op : ∀ f, s.preset.op ≠ .freezing f) : FrozenOk (s.place T) :=
  FrozenOk.changeTables (HoldsFrozen.keepFrozen s _) (.of_ne op)

theorem FrozenOk.placeRecord {s : State} (t : Nat) (l : List Byte) (op : ∀ f, s.preset.op ≠ .freezing f) : FrozenOk (s.placeRecord t l) := by
  unfold State.placeRecord
  split
  · exact FrozenOk.place _ op
  · exact FrozenOk.place _ op

theorem FrozenOk.putPreset {s : State} {p : Preset} (h : FrozenOk s) (op : ∀ f, p.op ≠ .freezing f) : FrozenOk (s.putPreset p) :=
  ⟨h.1, HoldsFreezing.of_ne op⟩

theorem FrozenOk.startUpTablePlaced {s : State} (h : FrozenOk s) : FrozenOk s.startUpTablePlaced := by
  unfold State.startUpTablePlaced
  split
  · next p starting =>
    have judged : FrozenOk (s.judgeImage p).1 ∧ (s.judgeImage p).1.preset = s.preset := by
      unfold State.judgeImage
      split
      · exact ⟨h, rfl⟩
      · exact ⟨h.latchIf _ _, by simp⟩
    obtain ⟨ok, same⟩ := judged
    split
    · dsimp only
      unfold State.startUpTable
      refine FrozenOk.putPreset ?_ fun f e => by cases e
      split
      · exact FrozenOk.placeRecord _ _ fun f e => by simp [same, starting] at e
      · exact FrozenOk.place _ fun f e => by simp [same, starting] at e
    · split
      · exact FrozenOk.putPreset (s := State.putCondition _ _) (ok.latchIf _ _) fun f e => by cases e
      · exact h
  · exact h

theorem FrozenOk.applyFreeze {s : State} (n : LaneNo) (f : Frozen) (h : FrozenOk s) (op : ∀ f, s.preset.op ≠ .freezing f) :
    FrozenOk (s.applyFreeze n f) := by
  refine ⟨fun m g frozen => ?_, HoldsFreezing.of_ne fun g e => op g (by simpa [State.applyFreeze] using e)⟩
  by_cases same : n = m
  · subst same
    have values : f = g := by simpa [State.applyFreeze] using frozen
    subst values
    simp [State.applyFreeze]
  · have other : n.val ≠ m.val := fun e => same (Fin.ext e)
    have frozen' : s.frozen[m] = some g := by simpa [State.applyFreeze, other] using frozen
    simpa [State.applyFreeze, other] using h.1 m g frozen'

theorem FrozenOk.freezeRecordRead {s : State} (h : FrozenOk s) : FrozenOk s.freezeRecordRead := by
  unfold State.freezeRecordRead
  split
  · next starting =>
    split
    · refine FrozenOk.putPreset (s := State.putCondition _ _) ?_ fun f e => by cases e
      show FrozenOk (s.readFreeze _)
      unfold State.readFreeze
      dsimp only
      split
      · exact h
      · split
        · exact h.applyFreeze _ _ fun f e => by simp [starting] at e
        · exact h.latch _
    · exact h
  · exact h

theorem FrozenOk.saveRecordWritten {s : State} (h : FrozenOk s) : FrozenOk s.saveRecordWritten := by
  unfold State.saveRecordWritten
  split
  · have written (m : PresetMemory) (c : MemCondition) : FrozenOk ((s.putMemory m).putCondition c) := h
    dsimp only
    split
    · exact (written _ _).putOp _ fun f e => by cases e
    · exact ((written _ _).putOp _ fun f e => by cases e).reply _ _ _
  · exact h

theorem FrozenOk.reloadDone {s : State} (r : Reply) (h : FrozenOk s) : FrozenOk (s.reloadDone r) :=
  ((h.putOp .idle fun f e => by cases e).putAnswers _).reply _ _ _

theorem FrozenOk.reloadNext {s : State} (v : Reload) (h : FrozenOk s) : FrozenOk (s.reloadNext v) := by
  unfold State.reloadNext
  split
  · exact h.reloadDone _
  · exact h.putOp _ fun f e => by cases e

theorem FrozenOk.loadPresetStepDone {s : State} (h : FrozenOk s) : FrozenOk s.loadPresetStepDone := by
  unfold State.loadPresetStepDone
  split
  · next loading =>
    have answering : FrozenOk (s.putCondition .answering) := h
    dsimp only
    split
    · split
      · refine ((FrozenOk.placeRecord _ _ fun f e => ?_).putProtect _).reloadNext _
        simp [State.putCondition, loading] at e
      · split
        · exact ((answering.latchIf _ _).putProtect _).reloadNext _
        · exact answering.reloadDone _
    · split
      · exact answering.reloadNext _
      · exact ((answering.latch _).putOp _ fun f e => by cases e).reply _ _ _
  · exact h

theorem FrozenOk.freezeWriteComplete {s : State} (ok : Bool) (n : Nat) (h : FrozenOk s) : FrozenOk (s.freezeWriteComplete ok n) := by
  unfold State.freezeWriteComplete
  split
  · next f writing =>
    split
    · refine FrozenOk.reply (s := State.putOp _ .idle) ⟨fun m g frozen => ?_, HoldsFreezing.of_ne fun _ e => by cases e⟩ _ _ _
      by_cases same : f.lane = m
      · subst same
        have values : ({ station := f.station, zone := f.zone } : Frozen) = g := by simpa [State.putOp, State.putCondition] using frozen
        subst values
        exact h.2 f writing
      · have other : f.lane.val ≠ m.val := fun e => same (Fin.ext e)
        have frozen' : s.frozen[m] = some g := by simpa [State.putOp, State.putCondition, other] using frozen
        exact h.1 m g frozen'
    · exact ((h.putMemory _).putOp .idle fun f e => by cases e).reply _ _ _
  · exact h

theorem FrozenOk.presetAccessTimeout {s : State} (n : Nat) (h : FrozenOk s) : FrozenOk (s.presetAccessTimeout n) := by
  unfold State.presetAccessTimeout
  split
  · exact h
  · next p starting =>
    unfold State.startUpSilent
    split
    · refine FrozenOk.putPreset ?_ fun f e => by cases e
      split
      · have latched : (s.latch .presetFault).preset.op = .startUp p := by simp [starting]
        refine (List.foldlRecOn (motive := fun u => FrozenOk u ∧ u.preset.op = .startUp p) _ _ ⟨h.latch _, latched⟩ fun u hu t _ => ?_).1
        refine ⟨FrozenOk.place _ fun f e => ?_, ?_⟩
        · rw [hu.2] at e
          cases e
        · simpa [State.placeDefault, State.place] using hu.2
      · exact h.latch _
    · exact h
  · exact (((h.putMemory _).putCondition _).putOp .idle fun f e => by cases e).reply _ _ _
  · exact ((((h.latch _).putCondition _).putOp .idle fun f e => by cases e).putAnswers _).reply _ _ _
  · exact (((h.putMemory _).putCondition _).putOp .idle fun f e => by cases e).reply _ _ _

theorem FrozenOk.controller : ControllerKeep FrozenOk FrozenOk where
  startUpTablePlaced := FrozenOk.startUpTablePlaced
  freezeRecordRead := FrozenOk.freezeRecordRead
  saveRecordWritten := FrozenOk.saveRecordWritten
  loadPresetStepDone := FrozenOk.loadPresetStepDone
  freezeWriteComplete := FrozenOk.freezeWriteComplete
  presetAccessTimeout := FrozenOk.presetAccessTimeout

/-- Settles O60: a write that would change a frozen identity is refused, none passes while a freeze record is being written, and a placement
overwrites what it brings with the frozen values. -/
theorem frozenValuesKept : Obligations.FrozenValuesKept := fun _ _ h stepped =>
  step_leads (fun h => h) (fun _ h => h) (fun _ h => h)
    (exec_leads (fun h => h) FrozenOk.shared (FrozenOk.airFree.keep FrozenOk.shared FrozenOk.feedFree.holdKeep) FrozenOk.taken
      FrozenOk.controller) stepped h

end Sys2Proof.Safety
end

section
/-! PROOF. The records of the preset memory (R174, R187, R188): each entry of a table in range is read back from its bytes, and each record of a SAVE
is a good one of the length of its place. -/

namespace Sys2Proof.Machine

/-! ### Fields (R183) -/

@[simp] theorem be16_length (h : Half) : (be16 h).length = 2 := rfl

@[simp] theorem be16Nat_length (n : Nat) : (be16Nat n).length = 2 := rfl

@[simp] theorem extract_be16 (h : Half) : h.extractLsb' 8 8 ++ h.extractLsb' 0 8 = h := by
  have whole := BitVec.extractLsb'_append_extractLsb'_eq_extractLsb' (x := h) (start₁ := 0) (len₁ := 8) (start₂ := 8) (len₂ := 8) rfl
  exact whole.trans BitVec.extractLsb'_eq_self

@[simp] theorem zone?_byteOf (z : Zone) : zone? (byteOf z.val) = some z := by
  have small : (byteOf z.val).toNat = z.val := by
    simp only [byteOf, BitVec.toNat_ofNat]
    omega
  simp [zone?, small]

@[simp] theorem yesNo?_yesNoByte (b : Bool) : yesNo? (yesNoByte b) = some b := by cases b <;> rfl

theorem toNat_byteOf {n : Nat} (h : n < 256) : (byteOf n).toNat = n := by
  simp only [byteOf, BitVec.toNat_ofNat]
  omega

@[simp] theorem toNat_byteOf_eq_iff (n : Nat) : (byteOf n).toNat = n ↔ n < 256 := by
  simp [byteOf]

/-! ### Entries are read back from their bytes (R187) -/

theorem LaneEntry.bytes_length (e : LaneEntry) : e.bytes.length = 24 := rfl

theorem LaneEntry.load_bytes {e : LaneEntry} (h : e.inRange = true) : LaneEntry.load e.bytes = e := by
  simp only [LaneEntry.inRange, Bool.and_eq_true, decide_eq_true_eq] at h
  obtain ⟨station, zone, linked, traffic, reference, da, dd, lead, trail, bulletinCeiling, urgentCeiling, regularLen, bulletinLen, urgentLen,
    onAtStart⟩ := e
  dsimp only at h
  simp [LaneEntry.load, LaneEntry.bytes, be16, be16Nat, byteAt, halfAt]
  omega

@[simp] theorem ItemKind.ofCode?_code (k : ItemKind) : ItemKind.ofCode? k.code = some k := by cases k <;> rfl

theorem ListEntry.bytes_length (e : ListEntry) : e.bytes.length = 4 := rfl

theorem ListEntry.load_bytes {e : ListEntry} (t : Nat) (h : e.inRange = true) : ListEntry.load t e.bytes = e := by
  simp only [ListEntry.inRange, Bool.and_eq_true, decide_eq_true_eq] at h
  obtain ⟨enabled, kind, index, burst⟩ := e
  dsimp only at h
  simp [ListEntry.load, ListEntry.bytes, byteAt]
  omega

theorem NameEntry.bytes_length {e : NameEntry} (h : e.inRange = true) : e.bytes.length = 18 := by
  simp only [NameEntry.inRange, Bool.and_eq_true, decide_eq_true_eq] at h
  exact h.1

/-- Half `i` of a run of halves. -/
theorem halfAt_flatMap_be16 {l : List Half} {i : Nat} (h : i < l.length) (b : Byte) : halfAt (b :: l.flatMap be16) (1 + 2 * i) = l.getD i 0 := by
  have body {k : List Half} {i : Nat} (h : i < k.length) : halfAt (k.flatMap be16) (2 * i) = k.getD i 0 := by
    induction k generalizing i with
    | nil => cases h
    | cons x k ih =>
      cases i with
      | zero => simp [halfAt, byteAt, be16]
      | succ i =>
        have step := ih (i := i) (by simpa using h)
        have shift : 2 * (i + 1) = 2 * i + 2 := by ring
        simpa [halfAt, byteAt, be16, shift] using step
  have shift : 1 + 2 * i = 2 * i + 1 := by ring
  simpa [halfAt, byteAt, shift] using body h

theorem NeighbourEntry.bytes_length {e : NeighbourEntry} (h : e.inRange = true) : e.bytes.length = 49 := by
  simp only [NeighbourEntry.inRange, Bool.and_eq_true, decide_eq_true_eq] at h
  obtain ⟨⟨⟨-, codes⟩, -⟩, -⟩ := h
  simp [NeighbourEntry.bytes, codes]

theorem NeighbourEntry.load_bytes {e : NeighbourEntry} (h : e.inRange = true) : NeighbourEntry.load e.bytes = e := by
  simp only [NeighbourEntry.inRange, Bool.and_eq_true, decide_eq_true_eq] at h
  obtain ⟨⟨⟨count, codes⟩, -⟩, -⟩ := h
  obtain ⟨n, l⟩ := e
  dsimp only at count codes
  have loaded : (List.range 24).map (fun i => halfAt (byteOf n :: l.flatMap be16) (1 + 2 * i)) = l := by
    refine List.ext_getElem (by simp [codes]) fun i hi hl => ?_
    rw [List.getElem_map, List.getElem_range, halfAt_flatMap_be16 hl]
    simp [hl]
  have small : (byteOf n).toNat = n := toNat_byteOf (by omega)
  simp [NeighbourEntry.load, NeighbourEntry.bytes, loaded, byteAt, small]

@[simp] theorem CueMode.ofCode?_code (m : CueMode) : CueMode.ofCode? m.code = some m := by cases m <;> rfl
@[simp] theorem TriggerEdge.ofCode?_code (e : TriggerEdge) : TriggerEdge.ofCode? e.code = some e := by cases e <;> rfl
@[simp] theorem Force.ofCode?_code (f : Force) : Force.ofCode? f.code = some f := by cases f <;> rfl
@[simp] theorem Role.ofCode?_code (r : Role) : Role.ofCode? r.code = some r := by cases r <;> rfl

theorem CueEntry.bytes_length (e : CueEntry) : e.bytes.length = 14 := rfl

theorem CueEntry.load_bytes {e : CueEntry} (h : e.inRange = true) : CueEntry.load e.bytes = e := by
  simp only [CueEntry.inRange, Bool.and_eq_true, decide_eq_true_eq] at h
  obtain ⟨mode, urgentOnly, edge, fromAudio, delay, high, low, pulses, truncate, activeLow, force⟩ := e
  dsimp only at h
  simp [CueEntry.load, CueEntry.bytes, be16, be16Nat, byteAt, halfAt]
  omega

theorem SiteEntry.bytes_length (e : SiteEntry) : e.bytes.length = 11 := rfl

theorem SiteEntry.load_bytes {e : SiteEntry} (h : e.inRange = true) : SiteEntry.load e.bytes = e := by
  simp only [SiteEntry.inRange, Bool.and_eq_true, decide_eq_true_eq] at h
  obtain ⟨role, divisor, outOffset, inOffset, autostart, highThreshold, lowThreshold, holdoverOnDegraded, holdLimit⟩ := e
  dsimp only at h
  simp [SiteEntry.load, SiteEntry.bytes, be16, be16Nat, byteAt, halfAt]
  omega

/-! ### Tables are read back from their bytes -/

theorem Vector.getD_map_of_lt {α β : Type} {n : Nat} (v : Vector α n) (f : α → List β) {i : Nat} (h : i < n) :
    (v[i]?.map f).getD [] = f v[i] := by
  simp [h]

/-- Every entry of table `t` has the bytes of its table's entry size (R187). -/
theorem Tables.entryBytes_length {T : Tables} (h : T.inRange = true) (titles : Vector TitleRecord 16) {t i : Nat} (table : t ≤ 8)
    (entry : i < entryCount t) : (T.entryBytes titles t i).length = entrySize t := by
  simp only [Tables.inRange, Bool.and_eq_true, all_toList_iff] at h
  obtain ⟨⟨⟨⟨⟨⟨⟨lane, regular⟩, bulletin⟩, urgent⟩, names⟩, neighbours⟩, cueLines⟩, site⟩ := h
  match t, table with
  | 0, _ => simp [entryCount] at entry
  | 1, _ => exact (congrArg List.length (Vector.getD_map_of_lt T.lane LaneEntry.bytes entry)).trans (LaneEntry.bytes_length _)
  | 2, _ => exact (congrArg List.length (Vector.getD_map_of_lt T.regular ListEntry.bytes entry)).trans (ListEntry.bytes_length _)
  | 3, _ => exact (congrArg List.length (Vector.getD_map_of_lt T.bulletin ListEntry.bytes entry)).trans (ListEntry.bytes_length _)
  | 4, _ => exact (congrArg List.length (Vector.getD_map_of_lt T.urgent ListEntry.bytes entry)).trans (ListEntry.bytes_length _)
  | 5, _ => exact (congrArg List.length (Vector.getD_map_of_lt T.names NameEntry.bytes entry)).trans (NameEntry.bytes_length (names i entry))
  | 6, _ =>
    exact (congrArg List.length (Vector.getD_map_of_lt T.neighbours NeighbourEntry.bytes entry)).trans
      (NeighbourEntry.bytes_length (neighbours i entry))
  | 7, _ => exact (congrArg List.length (Vector.getD_map_of_lt T.cueLines CueEntry.bytes entry)).trans (CueEntry.bytes_length _)
  | 8, _ =>
    have only : i = 0 := Nat.lt_one_iff.1 entry
    subst only
    exact SiteEntry.bytes_length T.site

/-- A run of pieces of one size, cut again: piece `i` begins at `i` times the size. -/
theorem take_drop_flatMap {f : Nat → List Byte} {size : Nat} (count : Nat) (pieces : ∀ i, i < count → (f i).length = size) (tail : List Byte)
    {i : Nat} (h : i < count) : (((List.range count).flatMap f ++ tail).drop (i * size)).take size = f i := by
  have before (k : Nat) (hk : k ≤ count) : ((List.range k).flatMap f).length = k * size := by
    induction k with
    | zero => simp
    | succ k ih =>
      rw [List.range_succ, List.flatMap_append, List.length_append, ih (by omega)]
      simp [pieces k (by omega)]
      ring
  obtain ⟨d, rfl⟩ : ∃ d, count = i + 1 + d := ⟨count - (i + 1), by omega⟩
  have split : (List.range (i + 1 + d)).flatMap f ++ tail =
      (List.range i).flatMap f ++ (f i ++ (((List.range d).map (i + 1 + ·)).flatMap f ++ tail)) := by
    rw [List.range_add, List.range_succ]
    simp
  rw [split, List.drop_left' (before i (by omega)), List.take_left' (pieces i h)]

/-- The record of table `t` without its check (R188). -/
def State.recordBody (s : State) (t : Nat) : List Byte := (List.range (entryCount t)).flatMap (s.tables.entryBytes s.titles t)

theorem State.tableRecord_eq (s : State) (t : Nat) : s.tableRecord t = sealRecord (byteOf t :: s.recordBody t) := rfl

theorem State.recordBody_length {s : State} (h : s.tables.inRange = true) {t : Nat} (table : t ≤ 8) :
    (s.recordBody t).length = entryCount t * entrySize t := by
  have sizes : ∀ i ∈ List.range (entryCount t), (s.tables.entryBytes s.titles t i).length = entrySize t := fun i m =>
    Tables.entryBytes_length h s.titles table (List.mem_range.1 m)
  rw [State.recordBody, List.length_flatMap, List.map_congr_left sizes]
  simp

theorem State.tableRecord_length {s : State} (h : s.tables.inRange = true) {t : Nat} (table : t ≤ 8) :
    (s.tableRecord t).length = 3 + entryCount t * entrySize t := by
  rw [State.tableRecord_eq]
  simp [sealRecord, State.recordBody_length h table]
  omega

/-- Entry `i` of a table's record. -/
theorem State.recordBody_entry {s : State} (h : s.tables.inRange = true) {t i : Nat} (table : t ≤ 8) (entry : i < entryCount t) (tail : List Byte) :
    ((s.recordBody t ++ tail).drop (i * entrySize t)).take (entrySize t) = s.tables.entryBytes s.titles t i :=
  take_drop_flatMap _ (fun _ e => Tables.entryBytes_length h s.titles table e) tail entry

theorem loadEntries_eq {α : Type} {count size : Nat} {load : List Byte → α} {l : List Byte} {v : Vector α count}
    (h : ∀ (i : Nat) (hi : i < count), load ((l.drop (i * size)).take size) = v[i]) : loadEntries count size load l = v := by
  ext i hi
  simp [loadEntries, h i hi]

/-- What a record holds of a table is what the table holds. -/
theorem State.loadTable_recordBody {s : State} (T : Tables) (h : s.tables.inRange = true) {t : Nat} (table : 1 ≤ t ∧ t ≤ 8) (tail : List Byte) :
    T.loadTable t (s.recordBody t ++ tail) = T.copyTable s.tables t := by
  have entry {i : Nat} (hi : i < entryCount t) := State.recordBody_entry h table.2 hi tail
  simp only [Tables.inRange, Bool.and_eq_true, all_toList_iff] at h
  obtain ⟨⟨⟨⟨⟨⟨⟨lane, regular⟩, bulletin⟩, urgent⟩, names⟩, neighbours⟩, cueLines⟩, site⟩ := h
  have bytes {α : Type} {n : Nat} (v : Vector α n) (f : α → List Byte) {i : Nat} (hi : i < n) := Vector.getD_map_of_lt v f hi
  obtain rfl | rfl | rfl | rfl | rfl | rfl | rfl | rfl : t = 1 ∨ t = 2 ∨ t = 3 ∨ t = 4 ∨ t = 5 ∨ t = 6 ∨ t = 7 ∨ t = 8 := by omega
  · refine congrArg (fun v => { T with lane := v }) (loadEntries_eq fun i hi => ?_)
    exact (congrArg LaneEntry.load ((entry hi).trans (bytes s.tables.lane LaneEntry.bytes hi))).trans (LaneEntry.load_bytes (lane i hi))
  · refine congrArg (fun v => { T with regular := v }) (loadEntries_eq fun i hi => ?_)
    exact (congrArg (ListEntry.load 2) ((entry hi).trans (bytes s.tables.regular ListEntry.bytes hi))).trans (ListEntry.load_bytes 2 (regular i hi))
  · refine congrArg (fun v => { T with bulletin := v }) (loadEntries_eq fun i hi => ?_)
    exact (congrArg (ListEntry.load 3) ((entry hi).trans (bytes s.tables.bulletin ListEntry.bytes hi))).trans
      (ListEntry.load_bytes 3 (bulletin i hi))
  · refine congrArg (fun v => { T with urgent := v }) (loadEntries_eq fun i hi => ?_)
    exact (congrArg (ListEntry.load 4) ((entry hi).trans (bytes s.tables.urgent ListEntry.bytes hi))).trans (ListEntry.load_bytes 4 (urgent i hi))
  · refine congrArg (fun v => { T with names := v }) (loadEntries_eq fun i hi => ?_)
    exact congrArg NameEntry.mk ((entry hi).trans (bytes s.tables.names NameEntry.bytes hi))
  · refine congrArg (fun v => { T with neighbours := v }) (loadEntries_eq fun i hi => ?_)
    exact (congrArg NeighbourEntry.load ((entry hi).trans (bytes s.tables.neighbours NeighbourEntry.bytes hi))).trans
      (NeighbourEntry.load_bytes (neighbours i hi))
  · refine congrArg (fun v => { T with cueLines := v }) (loadEntries_eq fun i hi => ?_)
    exact (congrArg CueEntry.load ((entry hi).trans (bytes s.tables.cueLines CueEntry.bytes hi))).trans (CueEntry.load_bytes (cueLines i hi))
  · refine congrArg (fun v => { T with site := v }) ?_
    exact (congrArg SiteEntry.load (entry (i := 0) Nat.one_pos)).trans (SiteEntry.load_bytes site)

/-! ### A record is good (R174) -/

theorem halfAt_append_be16 (l : List Byte) (h : Half) : halfAt (l ++ be16 h) l.length = h := by
  simp [halfAt, byteAt, be16]

/-- A sealed record that does not begin with the erased pattern is good. -/
theorem recordGood_sealRecord {b : Byte} (l : List Byte) (written : b ≠ 0xFF) : recordGood (l.length + 3) (sealRecord (b :: l)) = true := by
  have length : (b :: l).length = l.length + 3 - 2 := rfl
  simp only [recordGood, sealRecord, Bool.and_eq_true, beq_iff_eq, Bool.not_eq_true']
  refine ⟨⟨by simp, by simpa [isErased] using fun e => absurd e written⟩, ?_⟩
  rw [List.take_left' length, ← length, halfAt_append_be16]

theorem byteOf_ne_erased {t : Nat} (h : t ≤ 8) : byteOf t ≠ 0xFF := by
  intro e
  have := congrArg BitVec.toNat e
  rw [toNat_byteOf (by omega)] at this
  simp at this
  omega

theorem State.tableRecord_good {s : State} (h : s.tables.inRange = true) {t : Nat} (table : t ≤ 8) :
    tableRecordGood t (s.tableRecord t) = true := by
  have good := recordGood_sealRecord (s.recordBody t) (byteOf_ne_erased table)
  rw [State.recordBody_length h table, Nat.add_comm] at good
  simp only [tableRecordGood, Bool.and_eq_true]
  exact ⟨good, by simp [State.tableRecord_eq, sealRecord, byteAt]⟩

theorem State.fromRecord_tableRecord {s : State} (T : Tables) (h : s.tables.inRange = true) {t : Nat} (table : 1 ≤ t ∧ t ≤ 8) :
    T.fromRecord t (s.tableRecord t) = T.copyTable s.tables t :=
  State.loadTable_recordBody T h table _

/-- Settles O57. -/
theorem imageRoundTrip : Obligations.ImageRoundTrip := fun _ T _ h first last =>
  ⟨State.tableRecord_good h last, State.tableRecord_length h last, State.fromRecord_tableRecord T h ⟨first, last⟩⟩

end Sys2Proof.Machine
end

section
/-! PROOF. Tables in range, titles in form, and a preset memory whose image a load can take (R46, R154, R155, R158, R177, R188). -/

namespace Sys2Proof.Machine

/-! ### What a placement keeps is in range -/

theorem Tables.inRange_of {T : Tables} (h : ∀ t, 1 ≤ t → t ≤ 8 → T.partOk t = true) : T.inRange = true := by
  refine T.inRange_iff.2 fun t => ?_
  by_cases table : 1 ≤ t ∧ t ≤ 8
  · exact h t table.1 table.2
  · unfold Tables.partOk
    split
    case h_9 => rfl
    all_goals omega

theorem State.keepRunning_inRange {s : State} {T : Tables} (own : s.tables.inRange = true) (h : T.inRange = true) :
    (s.keepRunning T).inRange = true := by
  have ownLane := Tables.lane_inRange own
  have lane := Tables.lane_inRange h
  simp only [Tables.inRange, Bool.and_eq_true] at own h ⊢
  obtain ⟨⟨⟨⟨⟨⟨⟨-, ownRegular⟩, ownBulletin⟩, ownUrgent⟩, -⟩, -⟩, -⟩, ownSite⟩ := own
  obtain ⟨⟨⟨⟨⟨⟨⟨-, regular⟩, bulletin⟩, urgent⟩, names⟩, neighbours⟩, cueLines⟩, site⟩ := h
  rw [all_toList_iff] at ownRegular ownBulletin ownUrgent regular bulletin urgent
  refine ⟨⟨⟨⟨⟨⟨⟨all_toList_ofFn fun n => ?_, all_toList_ofFn fun i => ?_⟩, all_toList_ofFn fun i => ?_⟩, all_toList_ofFn fun i => ?_⟩, names⟩,
    neighbours⟩, cueLines⟩, ?_⟩
  · split
    · have old := ownLane n
      have new := lane n
      simp only [LaneEntry.inRange, Bool.and_eq_true] at old new ⊢
      simp only [old, new, and_self]
    · exact lane n
  · split
    · exact ownRegular i.val i.isLt
    · exact regular i.val i.isLt
  · split
    · exact ownBulletin i.val i.isLt
    · exact bulletin i.val i.isLt
  · split
    · exact ownUrgent i.val i.isLt
    · exact urgent i.val i.isLt
  · dsimp only [State.keepRunning]
    split
    · exact site
    · simp only [SiteEntry.inRange, Bool.and_eq_true] at ownSite site ⊢
      simp only [ownSite, site, and_self]

theorem State.keepFrozen_inRange {s : State} {T : Tables} (h : T.inRange = true) : (s.keepFrozen T).inRange = true := by
  have lane := Tables.lane_inRange h
  simp only [Tables.inRange, Bool.and_eq_true] at h ⊢
  obtain ⟨⟨⟨⟨⟨⟨⟨-, regular⟩, bulletin⟩, urgent⟩, names⟩, neighbours⟩, cueLines⟩, site⟩ := h
  refine ⟨⟨⟨⟨⟨⟨⟨all_toList_ofFn fun n => ?_, regular⟩, bulletin⟩, urgent⟩, names⟩, neighbours⟩, cueLines⟩, site⟩
  split
  · exact lane n
  · exact lane n

/-! ### Titles (R46, R50) -/

theorem TitleRecord.change_inRange (r : TitleRecord) {text : List Byte} (short : text.length ≤ 45) (clamped : ∀ c ∈ text, clampChar c = c) :
    (r.change text.length text).inRange = true := by
  have whole : text.length + (45 - text.length) = 45 := by omega
  simp [TitleRecord.inRange, TitleRecord.change, short, whole, List.all_eq_true]
  exact ⟨clamped, .inr (by decide)⟩

/-! ### Lengths (R188) -/

theorem cutWrite_length {old new : List Byte} (h : new.length = old.length) (n : Nat) : (cutWrite old new n).length = old.length := by
  simp [cutWrite, h]
  omega

theorem headerRecord_length (valid : Bool) : (headerRecord valid).length = 3 := rfl

theorem flagsRecord_length (flags : BitVec 8) : (flagsRecord flags).length = 3 := rfl

theorem freezeRecord_length (n : LaneNo) (station : Half) (zone : Zone) : (freezeRecord n station zone).length = 6 := rfl

end Sys2Proof.Machine

namespace Sys2Proof.Safety

open Machine

/-! ### The places of the preset memory (R188) -/

/-- Every place has the length of its record. -/
def PlacesOk (m : PresetMemory) : Prop :=
  m.header.length = 3 ∧ m.flags.length = 3 ∧ (∀ i : Fin 8, m.tables[i].length = 3 + entryCount (i.val + 1) * entrySize (i.val + 1)) ∧
  (∀ n : LaneNo, m.freeze[n].length = 6)

theorem PlacesOk.table {m : PresetMemory} (h : PlacesOk m) {t : Nat} (table : 1 ≤ t ∧ t ≤ 8) :
    (m.table t).length = 3 + entryCount t * entrySize t := by
  obtain ⟨-, -, tables, -⟩ := h
  have place := tables ⟨t - 1, by omega⟩
  have number : t - 1 + 1 = t := by omega
  have inside : t - 1 < 8 := by omega
  simpa [PresetMemory.table, number, inside] using place

theorem PlacesOk.saveOld {m : PresetMemory} {s : State} (h : PlacesOk m) (tables : s.tables.inRange = true) (k : Nat) :
    (s.saveBytes k).length = (m.saveOld k).length := by
  unfold State.saveBytes PresetMemory.saveOld
  split
  · exact h.1.symm
  · split
    · next short => rw [State.tableRecord_length tables short, h.table (by omega)]
    · split
      · exact h.2.1.symm
      · exact h.1.symm

/-- A place written with as many bytes as it holds. -/
theorem PlacesOk.saveWrite {m : PresetMemory} (h : PlacesOk m) {k : Nat} {l : List Byte} (length : l.length = (m.saveOld k).length) :
    PlacesOk (m.saveWrite k l) := by
  obtain ⟨header, flags, tables, freeze⟩ := h
  unfold PresetMemory.saveOld at length
  unfold PresetMemory.saveWrite
  split at length
  · next e =>
    rw [if_pos e]
    exact ⟨length.trans header, flags, tables, freeze⟩
  · next e =>
    rw [if_neg e]
    split at length
    · next e' =>
      rw [if_pos e']
      refine ⟨header, flags, fun i => ?_, freeze⟩
      show ((m.tables.setIfInBounds (k - 1) l)[i.val]).length = _
      rw [Vector.getElem_setIfInBounds]
      split
      · next same =>
        rw [length, PlacesOk.table ⟨header, flags, tables, freeze⟩ (by omega), ← same]
        congr 3 <;> omega
      · exact tables i
    · next e' =>
      rw [if_neg e']
      split at length
      · next e'' =>
        rw [if_pos e'']
        exact ⟨header, length.trans flags, tables, freeze⟩
      · next e'' =>
        rw [if_neg e'']
        exact ⟨length.trans header, flags, tables, freeze⟩

theorem PlacesOk.freeze {m : PresetMemory} (h : PlacesOk m) (n : LaneNo) {l : List Byte} (length : l.length = 6) :
    PlacesOk { m with freeze := m.freeze.set n l } := by
  obtain ⟨header, flags, tables, freeze⟩ := h
  refine ⟨header, flags, tables, fun i => ?_⟩
  by_cases same : n = i
  · subst same
    simpa using length
  · have other : n.val ≠ i.val := fun e => same (Fin.ext e)
    simpa [other] using freeze i

theorem PlacesOk.cutMemory {s : State} (h : PlacesOk s.memory) (tables : s.tables.inRange = true) (reset : Bool) (n : Nat) :
    PlacesOk (s.cutMemory reset n) := by
  unfold State.cutMemory
  split
  · exact h.saveWrite (cutWrite_length (h.saveOld tables _) _)
  · next f _ =>
    have six : s.memory.freeze[f.lane].length = 6 := h.2.2.2 f.lane
    refine h.freeze _ ((cutWrite_length ?_ _).trans six)
    rw [freezeRecord_length, six]
  · exact h

/-! ### The image (R174, R177, R180) -/

/-- The record of table `t`, if it is good, holds entries in range. -/
def RecordOk (m : PresetMemory) (t : Nat) : Prop :=
  tableRecordGood t (m.table t) = true → (Tables.default.fromRecord t (m.table t)).inRange = true

theorem recordsOk_iff (m : PresetMemory) (j : Nat) : recordsOk m j = true ↔ ∀ t, 1 ≤ t → t ≤ j → RecordOk m t := by
  have mem (t : Nat) : t ∈ List.range' 1 j ↔ 1 ≤ t ∧ t ≤ j := by
    rw [List.mem_range'_1]
    omega
  simp only [recordsOk, List.all_eq_true, mem, RecordOk, Bool.or_eq_true, Bool.not_eq_true']
  exact ⟨fun h t a b good => (h t ⟨a, b⟩).resolve_left (by simp [good]), fun h t ⟨a, b⟩ => by
    cases good : tableRecordGood t (m.table t)
    · exact .inl rfl
    · exact .inr (h t a b good)⟩

/-- There are eight records. -/
theorem RecordOk.beyond (m : PresetMemory) {t : Nat} (h : 8 < t) : RecordOk m t := by
  intro good
  have none : m.table t = [] := by
    have outside : ¬t - 1 < 8 := by omega
    simp [PresetMemory.table, outside]
  rw [none] at good
  simp only [tableRecordGood, recordGood, Bool.and_eq_true, decide_eq_true_eq, List.length_nil] at good
  omega

theorem recordsOk_of_le {m : PresetMemory} {i j : Nat} (h : recordsOk m j = true) (le : i ≤ j ∨ 8 ≤ j) : recordsOk m i = true := by
  rw [recordsOk_iff] at h ⊢
  intro t a b
  by_cases beyond : 8 < t
  · exact RecordOk.beyond m beyond
  · exact h t a (by omega)

theorem recordsOk_congr {m m' : PresetMemory} (h : m'.tables = m.tables) (j : Nat) : recordsOk m' j = recordsOk m j := by
  simp [recordsOk, PresetMemory.table, h]

/-- What the running operation has found or written of the image. -/
def OperationOk (m : PresetMemory) : PresetOp → Prop
  | .idle => True
  | .freezing _ => True
  | .startUp p => p.image = some true → recordsOk m 8 = true
  | .reloading v => v.headerRead = true → recordsOk m 8 = true
  | .saving v => v.next ≠ 0 → headerValid m.header = false ∧ recordsOk m (v.next - 1) = true

/-- Under a valid header every record is good for a load. -/
def HeaderOk (m : PresetMemory) : Prop := headerValid m.header = true → recordsOk m 8 = true

theorem imageOk_iff (s : State) : ImageOk s ↔ HeaderOk s.memory ∧ OperationOk s.memory s.preset.op := by
  have imp (a b : Bool) : (!a || b) = true ↔ (a = true → b = true) := by cases a <;> simp
  unfold ImageOk imageOk
  rw [Bool.and_eq_true, imp]
  refine and_congr Iff.rfl ?_
  cases s.preset.op with
  | idle => simp [OperationOk]
  | freezing _ => simp [OperationOk]
  | startUp p => simp [OperationOk, Decidable.imp_iff_not_or]
  | reloading v => simp [OperationOk, imp]
  | saving v => simp [OperationOk, Decidable.imp_iff_not_or]

/-- Tables in range, and a preset memory whose image holds entries in range as far as a load can take it. -/
structure StoreOk (s : State) : Prop where
  tables : s.tables.inRange = true
  places : PlacesOk s.memory
  header : HeaderOk s.memory
  operation : OperationOk s.memory s.preset.op

theorem storeOk_iff (s : State) : StoreOk s ↔ TablesOk s ∧ MemoryOk s ∧ ImageOk s := by
  rw [imageOk_iff]
  exact ⟨fun ⟨a, b, c, d⟩ => ⟨a, b, c, d⟩, fun ⟨a, b, c, d⟩ => ⟨a, b, c, d⟩⟩

theorem StoreOk.same {s t : State} (h : StoreOk s) (tables : t.tables = s.tables) (memory : t.memory = s.memory)
    (op : t.preset.op = s.preset.op) : StoreOk t := by
  obtain ⟨a, b, c, d⟩ := h
  constructor
  · rwa [tables]
  · rwa [memory]
  · rwa [memory]
  · rwa [memory, op]

theorem StoreOk.airFree : AirFree StoreOk :=
  ⟨fun _ h => h.same rfl rfl rfl, fun _ h => h.same rfl rfl rfl, fun _ h => h.same rfl rfl rfl⟩

theorem StoreOk.feedFree : FeedFree StoreOk :=
  ⟨fun _ h => h.same rfl rfl rfl, fun _ h => h.same rfl rfl rfl, fun _ h => h.same (by simp) (by simp) (by simp)⟩

theorem StoreOk.latch {s : State} (e : Event) (h : StoreOk s) : StoreOk (s.latch e) := StoreOk.feedFree.latch e h

theorem StoreOk.latchIf {s : State} (b : Bool) (e : Event) (h : StoreOk s) : StoreOk (s.latchIf b e) := h.same (by simp) (by simp) (by simp)

/-- The records that a load can take are in range. -/
theorem HeaderOk.of_records {m : PresetMemory} (h : recordsOk m 8 = true) : HeaderOk m := fun _ => h

theorem HeaderOk.of_invalid {m : PresetMemory} (h : headerValid m.header = false) : HeaderOk m := fun valid => by simp [h] at valid

/-- A header whose mark is being taken away is not valid. -/
theorem headerValid_invalidMark (old : List Byte) {n : Nat} (begun : n ≠ 0) : headerValid (cutWrite old (headerRecord false) n) = false := by
  obtain ⟨k, rfl⟩ := Nat.exists_eq_succ_of_ne_zero begun
  have mark : byteAt (cutWrite old (headerRecord false) (k + 1)) 0 = 0x00 := by
    simp [cutWrite, byteAt, headerRecord, sealRecord]
  simp [headerValid, mark]

/-- Whatever is cut, a valid header stands over records in range only (R180, R182). -/
theorem StoreOk.cutMemory_header {s : State} (h : StoreOk s) (reset : Bool) (n : Nat) : HeaderOk (s.cutMemory reset n) := by
  unfold State.cutMemory
  split
  · next v saving =>
    have operation := h.operation
    rw [saving] at operation
    unfold PresetMemory.saveWrite PresetMemory.saveOld
    split
    · next first =>
      rw [first]
      by_cases begun : cutSaveBytes reset 0 n = 0
      · have same : cutWrite s.memory.header (s.saveBytes 0) (cutSaveBytes reset 0 n) = s.memory.header := by simp [cutWrite, begun]
        rw [same]
        exact h.header
      · exact .of_invalid (headerValid_invalidMark _ begun)
    · next later =>
      obtain ⟨invalid, records⟩ := operation later
      split
      · exact .of_invalid invalid
      · split
        · exact .of_invalid invalid
        · refine .of_records ((recordsOk_congr rfl 8).trans (recordsOk_of_le records ?_))
          omega
  · exact h.header
  · exact h.header

theorem StoreOk.cut {s t : State} (h : StoreOk s) (tables : t.tables.inRange = true) {reset : Bool} {n : Nat}
    (memory : t.memory = s.cutMemory reset n) (op : OperationOk t.memory t.preset.op) : StoreOk t where
  tables := tables
  places := by rw [memory]; exact h.places.cutMemory h.tables reset n
  header := by rw [memory]; exact h.cutMemory_header reset n
  operation := op

theorem StoreOk.shared : SharedKeep StoreOk where
  hardReset _ h := h.cut (t := State.hardReset _ _) Tables.default_inRange rfl fun e => by cases e
  restart _ h := h.cut (t := State.restart _ _) h.tables rfl fun e => by cases e
  clockAt _ h := h.same rfl rfl rfl
  latch := StoreOk.latch
  queueAnswer _ h := h.same (by simp) (by simp) (by simp)
  answers _ _ _ h := h.same rfl rfl rfl
  feed _ h := h.same rfl rfl rfl
  guard _ h := h.same rfl rfl rfl
  lostAt _ h := h.same rfl rfl rfl
  recordOutcome := StoreOk.feedFree.recordOutcome StoreOk.airFree
  feedLost := StoreOk.feedFree.feedLost StoreOk.airFree
  recent _ _ h := h.same rfl rfl rfl
  titleZone text z _ _ := StoreOk.airFree.titleZone (fun _ h => h.same rfl rfl rfl) _ text z
  takeRecord := StoreOk.airFree.takeRecord StoreOk.latch
  sendRecord _ _ _ h := h.same rfl rfl rfl
  dropRecord _ _ h := h.same rfl rfl rfl

theorem StoreOk.changeTables {s : State} {T : Tables} (h : StoreOk s) (range : T.inRange = true) : StoreOk (s.changeTables T) where
  tables := by rw [State.changeTables_tables]; exact range
  places := by rw [State.changeTables_memory]; exact h.places
  header := by rw [State.changeTables_memory]; exact h.header
  operation := by rw [State.changeTables_memory, State.changeTables_preset]; exact h.operation

theorem StoreOk.putPreset {s : State} {p : Preset} (h : StoreOk s) (op : OperationOk s.memory p.op) : StoreOk (s.putPreset p) :=
  ⟨h.tables, h.places, h.header, op⟩

theorem StoreOk.putOp {s : State} {op : PresetOp} (h : StoreOk s) (ok : OperationOk s.memory op) : StoreOk (s.putOp op) := h.putPreset ok

theorem StoreOk.idle {s : State} (h : StoreOk s) : StoreOk (s.putOp .idle) := h.putOp trivial

theorem StoreOk.putCondition {s : State} (h : StoreOk s) (c : MemCondition) : StoreOk (s.putCondition c) := h.same rfl rfl rfl

theorem StoreOk.putAnswers {s : State} (h : StoreOk s) (u : AnswerUnit) : StoreOk (s.putAnswers u) := h.same rfl rfl rfl

theorem StoreOk.putProtect {s : State} (h : StoreOk s) (p : Protect) : StoreOk (s.putProtect p) := h.same rfl rfl rfl

theorem StoreOk.putFrozen {s : State} (h : StoreOk s) (v : Vector (Option Frozen) 4) : StoreOk (s.putFrozen v) := h.same rfl rfl rfl

theorem StoreOk.reply {s : State} (h : StoreOk s) (r : Reply) (x : Result) (d : List Byte) : StoreOk (s.reply r x d) :=
  StoreOk.shared.reply r x d h

theorem StoreOk.taken : TakenKeep StoreOk where
  write _ _ h := h.changeTables (Tables.storeAll_inRange _ _ _ h.tables)
  protect p h := h.putProtect p
  saving _ _ h := h.putOp fun e => absurd rfl e
  reloading _ _ unread h := h.putOp fun e => by simp [unread] at e
  freezing _ _ _ h := h.putOp trivial
  idle h := h.idle

/-! ### Loads -/

/-- What a load gives a table does not depend on the tables it is put in. -/
theorem loadTable_partOk (T S : Tables) (t : Nat) (l : List Byte) : (T.loadTable t l).partOk t = (S.loadTable t l).partOk t := by
  unfold Tables.loadTable
  split
  case h_9 h1 h2 h3 h4 h5 h6 h7 h8 =>
    unfold Tables.partOk
    split
    case h_9 => rfl
    all_goals contradiction
  all_goals rfl

theorem fromRecord_inRange {T S : Tables} {t : Nat} {l : List Byte} (h : (S.fromRecord t l).inRange = true) (own : T.inRange = true) :
    (T.fromRecord t l).inRange = true := by
  unfold Tables.fromRecord at h ⊢
  rw [Tables.loadTable_eq]
  refine Tables.copyTable_inRange t own ?_
  rw [loadTable_partOk T S]
  exact (Tables.inRange_iff _).1 h t

theorem StoreOk.place {s : State} {T : Tables} (h : StoreOk s) (range : T.inRange = true) : StoreOk (s.place T) :=
  h.changeTables (State.keepFrozen_inRange (State.keepRunning_inRange h.tables range))

theorem StoreOk.placeDefault {s : State} (h : StoreOk s) (t : Nat) : StoreOk (s.placeDefault t) :=
  h.place (Tables.copyTable_inRange t h.tables ((Tables.inRange_iff _).1 Tables.default_inRange t))

theorem StoreOk.placeRecord {s : State} (h : StoreOk s) {t : Nat} (record : RecordOk s.memory t) :
    StoreOk (s.placeRecord t (s.memory.table t)) := by
  unfold State.placeRecord
  split
  · next good => exact h.place (fromRecord_inRange (record good) h.tables)
  · exact h.placeDefault t

theorem recordOk_of {m : PresetMemory} (h : recordsOk m 8 = true) (t : Nat) : RecordOk m t := by
  rcases Nat.eq_zero_or_pos t with zero | table
  · subst zero
    exact fun _ => Tables.default_inRange
  · by_cases beyond : 8 < t
    · exact RecordOk.beyond m beyond
    · exact (recordsOk_iff m 8).1 h t table (by omega)

@[simp] theorem placeRecord_memory (s : State) (t : Nat) (l : List Byte) : (s.placeRecord t l).memory = s.memory := by
  unfold State.placeRecord State.place
  split <;> simp

@[simp] theorem placeDefault_memory (s : State) (t : Nat) : (s.placeDefault t).memory = s.memory := by
  unfold State.placeDefault State.place
  simp

theorem StoreOk.startUpTable {s : State} (h : StoreOk s) (p : StartUp) {image : Bool} (t : Nat)
    (records : image = true → recordsOk s.memory 8 = true) : StoreOk (s.startUpTable p image t) := by
  have memory (b : Bool) : (s.latchIf b .presetFault).memory = s.memory := by simp
  unfold State.startUpTable
  dsimp only
  refine StoreOk.putPreset ?_ fun e => ?_
  · split
    · next good =>
      simp only [Bool.and_eq_true] at good
      refine (h.latchIf _ _).placeRecord (recordOk_of ?_ t)
      rw [memory]
      exact records good.1
    · exact (h.latchIf _ _).placeDefault t
  · have valid : image = true := by simpa using e
    split
    · rw [placeRecord_memory, memory]
      exact records valid
    · rw [placeDefault_memory, memory]
      exact records valid

theorem StoreOk.startUpFlags {s : State} (h : StoreOk s) (p : StartUp) {image : Bool} (records : image = true → recordsOk s.memory 8 = true) :
    StoreOk (s.startUpFlags p image) := by
  refine StoreOk.putOp (((h.latchIf _ _).putProtect _).putCondition _) fun e => ?_
  have valid : image = true := by simpa using e
  simpa [State.putCondition] using records valid

theorem StoreOk.judgeImage {s : State} {p : StartUp} (h : StoreOk s) (starting : s.preset.op = .startUp p) :
    StoreOk (s.judgeImage p).1 ∧ ((s.judgeImage p).2 = true → recordsOk (s.judgeImage p).1.memory 8 = true) := by
  have operation := h.operation
  rw [starting] at operation
  unfold State.judgeImage
  split
  · next b image => exact ⟨h, fun e => operation (image.trans (congrArg some e))⟩
  · refine ⟨h.latchIf _ _, fun e => ?_⟩
    simp only [State.imageValid, Bool.and_eq_true] at e
    rw [State.latchIf_memory]
    exact h.header e.2

theorem StoreOk.startUpTablePlaced {s : State} (h : StoreOk s) : StoreOk s.startUpTablePlaced := by
  unfold State.startUpTablePlaced
  split
  · next p starting =>
    obtain ⟨ok, records⟩ := h.judgeImage starting
    split
    · exact ok.startUpTable p _ records
    · split
      · exact ok.startUpFlags p records
      · exact h
  · exact h

/-- A freeze record gives a lane's entry another station code and zone, which have no range. -/
theorem StoreOk.applyFreeze {s : State} (h : StoreOk s) (n : LaneNo) (f : Frozen) : StoreOk (s.applyFreeze n f) := by
  refine StoreOk.putFrozen (h.changeTables ?_) _
  have range := h.tables
  have lane := Tables.lane_inRange range n
  simp only [Tables.inRange, Bool.and_eq_true] at range ⊢
  obtain ⟨⟨⟨⟨⟨⟨⟨lanes, regular⟩, bulletin⟩, urgent⟩, names⟩, neighbours⟩, cueLines⟩, site⟩ := range
  refine ⟨⟨⟨⟨⟨⟨⟨?_, regular⟩, bulletin⟩, urgent⟩, names⟩, neighbours⟩, cueLines⟩, site⟩
  rw [all_toList_iff] at lanes ⊢
  intro i hi
  rw [Vector.getElem_set]
  split
  · exact lane
  · exact lanes i hi

theorem StoreOk.freezeRecordRead {s : State} (h : StoreOk s) : StoreOk s.freezeRecordRead := by
  unfold State.freezeRecordRead
  split
  · next p starting =>
    have operation := h.operation
    rw [starting] at operation
    split
    · have read (n : LaneNo) : StoreOk (s.readFreeze n) ∧ (s.readFreeze n).memory = s.memory := by
        unfold State.readFreeze
        dsimp only
        split
        · exact ⟨h, rfl⟩
        · split
          · exact ⟨h.applyFreeze _ _, by simp [State.applyFreeze]⟩
          · exact ⟨h.latch _, by simp⟩
      refine ((read _).1.putCondition _).putOp fun image => ?_
      exact (congrArg (recordsOk · 8) (read _).2).trans (operation image)
    · exact h
  · exact h

/-! ### A SAVE (R180) -/

theorem saveWrite_table (m : PresetMemory) {k t : Nat} (l : List Byte) (place : 1 ≤ k ∧ k ≤ 8) (table : 1 ≤ t ∧ t ≤ 8) :
    (m.saveWrite k l).table t = if t = k then l else m.table t := by
  have later : ¬k = 0 := by omega
  have inside : t - 1 < 8 := by omega
  by_cases same : t = k
  · subst same
    simp [PresetMemory.saveWrite, PresetMemory.table, later, place.2, inside]
  · have other : ¬k - 1 = t - 1 := by omega
    simp [PresetMemory.saveWrite, PresetMemory.table, later, place.2, inside, same, other]

/-- A table's record written from tables in range joins those before it. -/
theorem recordsOk_saveWrite {s : State} (range : s.tables.inRange = true) {k : Nat} (place : 1 ≤ k ∧ k ≤ 8)
    (before : recordsOk s.memory (k - 1) = true) : recordsOk (s.memory.saveWrite k (s.tableRecord k)) k = true := by
  rw [recordsOk_iff] at before ⊢
  intro t a b
  have table := saveWrite_table s.memory (s.tableRecord k) place (t := t) (by omega)
  by_cases same : t = k
  · subst same
    intro _
    rw [table, if_pos rfl, State.fromRecord_tableRecord _ range place]
    exact Tables.copyTable_inRange t Tables.default_inRange ((Tables.inRange_iff _).1 range t)
  · unfold RecordOk
    rw [table, if_neg same]
    exact before t a (by omega)

theorem headerValid_headerRecord_false : headerValid (headerRecord false) = false := by
  have mark : byteAt (headerRecord false) 0 = 0x00 := rfl
  simp [headerValid, mark]

/-- Up to the last write the header is not valid, and the records written so far are in range. -/
theorem StoreOk.written {s : State} {v : Saving} (h : StoreOk s) (saving : s.preset.op = .saving v) (going : v.next < 10) :
    headerValid (s.memory.saveWrite v.next (s.saveBytes v.next)).header = false ∧
      recordsOk (s.memory.saveWrite v.next (s.saveBytes v.next)) v.next = true := by
  have operation := h.operation
  rw [saving] at operation
  rcases Nat.eq_zero_or_pos v.next with first | later
  · rw [first]
    exact ⟨headerValid_headerRecord_false, rfl⟩
  · obtain ⟨invalid, records⟩ := operation (by omega)
    have started : ¬v.next = 0 := by omega
    by_cases table : v.next ≤ 8
    · have bytes : s.saveBytes v.next = s.tableRecord v.next := by simp [State.saveBytes, started, table]
      rw [bytes]
      refine ⟨?_, recordsOk_saveWrite h.tables ⟨later, table⟩ records⟩
      simpa [PresetMemory.saveWrite, started, table] using invalid
    · have flags : v.next = 9 := by omega
      rw [flags] at records ⊢
      exact ⟨invalid, (recordsOk_congr rfl 9).trans (recordsOk_of_le records (.inr le_rfl))⟩

theorem StoreOk.saveRecordWritten {s : State} (h : StoreOk s) : StoreOk s.saveRecordWritten := by
  unfold State.saveRecordWritten
  split
  · next v saving =>
    have operation := h.operation
    rw [saving] at operation
    have places : PlacesOk (s.memory.saveWrite v.next (s.saveBytes v.next)) := h.places.saveWrite (h.places.saveOld h.tables _)
    dsimp only
    split
    · next going =>
      obtain ⟨invalid, records⟩ := h.written saving going
      exact ⟨h.tables, places, HeaderOk.of_invalid invalid, fun _ => ⟨invalid, records⟩⟩
    · next last =>
      obtain ⟨-, records⟩ := operation (by omega)
      have tables : (s.memory.saveWrite v.next (s.saveBytes v.next)).tables = s.memory.tables := by
        have : ¬v.next = 0 := by omega
        have : ¬v.next ≤ 8 := by omega
        have : ¬v.next = 9 := by omega
        simp [PresetMemory.saveWrite, *]
      have whole : recordsOk (s.memory.saveWrite v.next (s.saveBytes v.next)) 8 = true :=
        (recordsOk_congr tables 8).trans (recordsOk_of_le records (by omega))
      have saved : StoreOk (((s.putMemory (s.memory.saveWrite v.next (s.saveBytes v.next))).putCondition .answering).putOp .idle) :=
        ⟨h.tables, places, HeaderOk.of_records whole, trivial⟩
      exact saved.reply _ _ _
  · exact h

/-! ### A LOAD, a freeze write, a silent memory -/

theorem StoreOk.reloadDone {s : State} (h : StoreOk s) (r : Reply) : StoreOk (s.reloadDone r) := (h.idle.putAnswers _).reply _ _ _

theorem StoreOk.reloadNext {s : State} (h : StoreOk s) {v : Reload} (records : v.headerRead = true → recordsOk s.memory 8 = true) :
    StoreOk (s.reloadNext v) := by
  unfold State.reloadNext
  split
  · exact h.reloadDone _
  · exact h.putOp records

theorem StoreOk.reloadTable {s : State} (h : StoreOk s) (v : Reload) (t : Nat) (rest : List Nat)
    (records : recordsOk s.memory 8 = true) : StoreOk (s.reloadTable v t rest) := by
  have memory (b : Bool) : (s.latchIf b .presetFault).memory = s.memory := by simp
  have placed := (h.latchIf (!tableRecordGood t (s.memory.table t)) .presetFault).placeRecord (t := t)
    (recordOk_of (by rw [memory]; exact records) t)
  rw [memory] at placed
  refine (placed.putProtect _).reloadNext fun _ => ?_
  exact (congrArg (recordsOk · 8) ((placeRecord_memory _ _ _).trans (memory _))).trans records

theorem StoreOk.reloadFlags {s : State} (h : StoreOk s) (v : Reload) (records : recordsOk s.memory 8 = true) : StoreOk (s.reloadFlags v) := by
  refine ((h.latchIf _ _).putProtect _).reloadNext fun _ => ?_
  exact (congrArg (recordsOk · 8) (State.latchIf_memory _ _ _)).trans records

theorem StoreOk.loadPresetStepDone {s : State} (h : StoreOk s) : StoreOk s.loadPresetStepDone := by
  unfold State.loadPresetStepDone
  split
  · next v loading =>
    have operation := h.operation
    rw [loading] at operation
    have answering := h.putCondition .answering
    dsimp only
    split
    · next read =>
      split
      · exact answering.reloadTable v _ _ (operation read)
      · split
        · exact answering.reloadFlags v (operation read)
        · exact answering.reloadDone _
    · split
      · next valid => exact answering.reloadNext fun _ => h.header valid
      · exact ((answering.latch _).idle).reply _ _ _
  · exact h

theorem StoreOk.freezeWriteComplete {s : State} (ok : Bool) (n : Nat) (h : StoreOk s) : StoreOk (s.freezeWriteComplete ok n) := by
  unfold State.freezeWriteComplete
  split
  · next f _ =>
    split
    · have frozen : StoreOk ((((s.putMemory { s.memory with freeze := s.memory.freeze.set f.lane (freezeRecord f.lane f.station f.zone) }).putFrozen
          (s.frozen.set f.lane (some { station := f.station, zone := f.zone }))).putCondition .answering).putOp .idle) :=
        ⟨h.tables, h.places.freeze f.lane (freezeRecord_length _ _ _), h.header, trivial⟩
      exact frozen.reply _ _ _
    · have cut : StoreOk ((s.putMemory (s.cutMemory false n)).putOp .idle) := h.cut h.tables rfl trivial
      exact cut.reply _ _ _
  · exact h

theorem StoreOk.startUpSilent {s : State} (h : StoreOk s) {p : StartUp} (starting : s.preset.op = .startUp p) : StoreOk (s.startUpSilent p) := by
  have operation := h.operation
  rw [starting] at operation
  have defaults (l : List Nat) : StoreOk (l.foldl State.placeDefault (s.latch .presetFault)) ∧
      (l.foldl State.placeDefault (s.latch .presetFault)).memory = s.memory :=
    List.foldlRecOn (motive := fun u => StoreOk u ∧ u.memory = s.memory) l _ ⟨h.latch _, by simp⟩ fun u hu t _ =>
      ⟨hu.1.placeDefault t, (placeDefault_memory u t).trans hu.2⟩
  unfold State.startUpSilent
  split
  · dsimp only
    refine StoreOk.putPreset ?_ fun e => ?_
    · split
      · exact (defaults _).1
      · exact h.latch _
    · simp only [Option.some.injEq, Bool.and_eq_true] at e
      have records : recordsOk s.memory 8 = true := operation (by simpa using Option.getD_eq_iff.1 e.2)
      split
      · exact (congrArg (recordsOk · 8) (defaults _).2).trans records
      · exact (congrArg (recordsOk · 8) (State.latch_memory _ _)).trans records
  · exact h

theorem StoreOk.presetAccessTimeout {s : State} (n : Nat) (h : StoreOk s) : StoreOk (s.presetAccessTimeout n) := by
  have cut : StoreOk (((s.putMemory (s.cutMemory false n)).putCondition .silent).putOp .idle) := h.cut h.tables rfl trivial
  unfold State.presetAccessTimeout
  split
  · exact h
  · next starting => exact h.startUpSilent starting
  · exact cut.reply _ _ _
  · exact ((((h.latch _).putCondition _).idle).putAnswers _).reply _ _ _
  · exact cut.reply _ _ _

theorem StoreOk.controller : ControllerKeep StoreOk StoreOk where
  startUpTablePlaced := StoreOk.startUpTablePlaced
  freezeRecordRead := StoreOk.freezeRecordRead
  saveRecordWritten := StoreOk.saveRecordWritten
  loadPresetStepDone := StoreOk.loadPresetStepDone
  freezeWriteComplete := StoreOk.freezeWriteComplete
  presetAccessTimeout := StoreOk.presetAccessTimeout

/-! ### The title store (R46) -/

theorem TitlesOk.airFree : AirFree TitlesOk := ⟨fun _ h => h, fun _ h => h, fun _ h => h⟩

theorem TitlesOk.feedFree : FeedFree TitlesOk := ⟨fun _ h => h, fun _ h => h, fun _ h => by simpa [TitlesOk] using h⟩

theorem TitlesOk.reset {s : State} (h : s.titles = Vector.replicate 16 TitleRecord.empty) : TitlesOk s := by
  intro z
  have empty : s.titles[z] = TitleRecord.empty := by simp [h]
  rw [empty]
  decide

theorem TitlesOk.titleZone {s : State} (h : TitlesOk s) {text : List Byte} (z : Zone) (short : text.length ≤ 45)
    (clamped : ∀ c ∈ text, clampChar c = c) : TitlesOk (s.titleZone text.length text z) := by
  unfold State.titleZone
  split
  · exact h
  · intro y
    by_cases same : z = y
    · subst same
      simpa using TitleRecord.change_inRange _ short clamped
    · have other : z.val ≠ y.val := fun e => same (Fin.ext e)
      simpa [other] using h y

theorem TitlesOk.shared : SharedKeep TitlesOk where
  hardReset _ _ := TitlesOk.reset rfl
  restart _ _ := TitlesOk.reset rfl
  clockAt _ h := h
  latch := TitlesOk.feedFree.latch
  queueAnswer _ h := by simpa [TitlesOk] using h
  answers _ _ _ h := h
  feed _ h := h
  guard _ h := h
  lostAt _ h := h
  recordOutcome := TitlesOk.feedFree.recordOutcome TitlesOk.airFree
  feedLost := TitlesOk.feedFree.feedLost TitlesOk.airFree
  recent _ _ h := h
  titleZone _ z short clamped h := h.titleZone z short clamped
  takeRecord := TitlesOk.airFree.takeRecord TitlesOk.feedFree.latch
  sendRecord _ _ _ h := h
  dropRecord _ _ h := h

theorem TitlesOk.presetFree : PresetFree TitlesOk where
  changeTables := TitlesOk.airFree.changeTables TitlesOk.feedFree.hold fun _ h => h
  protect _ h := h
  frozen _ h := h
  preset _ h := h
  memory _ h := h

/-- Settles O59, in two parts: the titles, which a TITLE alone changes, and the tables with the preset memory. -/
theorem tablesStayInRange : Obligations.TablesStayInRange := by
  intro s t ⟨tables, titles, memory, image⟩ stepped
  have stored : StoreOk t :=
    step_leads (fun h => h) (fun _ h => h.same rfl rfl rfl) (fun _ h => h.same rfl rfl rfl)
      (exec_leads (fun h => h) StoreOk.shared (StoreOk.airFree.keep StoreOk.shared StoreOk.feedFree.holdKeep) StoreOk.taken StoreOk.controller)
      stepped ((storeOk_iff s).2 ⟨tables, memory, image⟩)
  have named : TitlesOk t :=
    step_leads (fun h => h) (fun _ h => h) (fun _ h => h)
      (exec_leads (fun h => h) TitlesOk.shared (TitlesOk.airFree.keep TitlesOk.shared TitlesOk.feedFree.holdKeep) TitlesOk.presetFree.taken
        (TitlesOk.presetFree.controller TitlesOk.shared)) stepped titles
  obtain ⟨tables', memory', image'⟩ := (storeOk_iff t).1 stored
  exact ⟨tables', named, memory', image'⟩

end Sys2Proof.Safety
end

section
/-! PROOF. Steps and resets: the front command or the soonest step of the part's own timing, and what a reset leaves (R17, R47, R78, R127, R144, R149,
R164, R176, R179, R182). -/

namespace Sys2Proof.Machine

/-! ### The next step -/

theorem mem_soonest {l : List Timed} {x : Timed} : x ∈ soonest l ↔ x ∈ l ∧ ∀ y ∈ l, atOrBefore x.time y.time = true := by
  simp [soonest]

theorem atOrBefore_refl {w : Nat} (a : BitVec w) : atOrBefore a a = true := by simp [atOrBefore, sdiff]

theorem soonest_singleton (x : Timed) : soonest [x] = [x] := by simp [soonest, atOrBefore_refl]

/-- The part's own next command is that of one of the soonest steps. -/
theorem State.ownCommand_mem {s : State} (h : soonest s.timed ≠ []) : ∃ x ∈ soonest s.timed, s.ownCommand = some x.command := by
  unfold State.ownCommand
  split
  · next none => exact absurd none h
  · next x only => exact ⟨x, by simp [only], rfl⟩
  · next x rest _ several =>
    have pick : Config.pick s.choices % (x :: rest).length < (x :: rest).length := Nat.mod_lt _ (by simp)
    refine ⟨(x :: rest)[Config.pick s.choices % (x :: rest).length], by rw [several]; exact List.getElem_mem _, ?_⟩
    rw [List.getD_eq_getElem _ _ pick]

theorem State.ownCommand_none {s : State} (h : soonest s.timed = []) : s.ownCommand = none := by
  unfold State.ownCommand
  rw [h]

theorem step_of_pending {s : State} {c : Instr} {rest : List Instr} (h : s.pending = c :: rest) : step s = exec c (s.putPending rest) := by
  unfold step
  rw [h]

theorem step_alone {s : State} (h : s.pending = []) : step s = stepAlone s := by
  unfold step
  rw [h]

theorem step_of_ownCommand {s : State} (h : s.pending = []) {c : Instr} (own : s.ownCommand = some c) :
    step s = exec c (s.putChoices (s.choices + 1)) := by
  rw [step_alone h, stepAlone, own]

theorem step_idle {s : State} (h : s.pending = []) (own : soonest s.timed = []) : step s = .next s := by
  rw [step_alone h, stepAlone, State.ownCommand_none own]

/-- Settles O1. -/
theorem stepRunsCommand : Obligations.StepRunsCommand := by
  refine ⟨fun s c rest h => step_of_pending h, fun s h => ⟨fun ⟨x, m, first⟩ => ?_, fun none => step_idle h ?_⟩, fun s x h only => ?_,
    fun s h none => step_idle h ?_⟩
  · obtain ⟨y, my, own⟩ := State.ownCommand_mem (List.ne_nil_of_mem (mem_soonest.2 ⟨m, first⟩))
    obtain ⟨inTimed, earliest⟩ := mem_soonest.1 my
    exact ⟨y, inTimed, earliest, step_of_ownCommand h own⟩
  · refine List.eq_nil_iff_forall_not_mem.2 fun x m => ?_
    obtain ⟨inTimed, earliest⟩ := mem_soonest.1 m
    exact none x inTimed earliest
  · have alone : soonest s.timed = [x] := by rw [only, soonest_singleton]
    obtain ⟨y, my, own⟩ := State.ownCommand_mem (s := s) (by simp [alone])
    rw [alone, List.mem_singleton] at my
    subst my
    exact step_of_ownCommand h own
  · rw [none]
    rfl

end Sys2Proof.Machine

namespace Sys2Proof.Safety

open Machine

/-! ### Right after reset -/

theorem reset_lane (n : LaneNo) : State.reset.lanes[n] = Lane.reset := by simp [State.reset]

theorem reset_title (z : Zone) : State.reset.titles[z] = TitleRecord.empty := by simp [State.reset]

theorem reset_frozen (n : LaneNo) : State.reset.frozen[n] = none := by simp [State.reset]

/-- Settles O3: the state after reset, block by block. -/
theorem resetValues : Obligations.ResetValues := by
  refine ⟨rfl, fun n => ?_, fun z => ?_, rfl, rfl, rfl, rfl, rfl, rfl, rfl, rfl, rfl, rfl, rfl, rfl, rfl, rfl,
    rfl, rfl, rfl, rfl, rfl, rfl, rfl, rfl, rfl, rfl, rfl, fun t first last => ?_, rfl, reset_frozen, rfl, rfl⟩
  · rw [reset_lane]
    exact ⟨rfl, rfl, rfl, rfl, rfl, rfl, rfl, rfl, rfl, rfl, rfl, rfl, rfl, rfl, rfl, rfl, rfl, rfl, rfl⟩
  · rw [reset_title]
    exact ⟨rfl, rfl, rfl⟩
  · show (0xFF#8).getLsbD (t - 1) = true
    obtain rfl | rfl | rfl | rfl | rfl | rfl | rfl | rfl : t = 1 ∨ t = 2 ∨ t = 3 ∨ t = 4 ∨ t = 5 ∨ t = 6 ∨ t = 7 ∨ t = 8 := by omega
    all_goals rfl

/-- A place that was never written holds no good record. -/
theorem recordGood_erased (n k : Nat) : recordGood n (List.replicate k 0xFF) = false := by
  have erased : isErased (List.replicate k 0xFF) = true := by simp [isErased]
  rw [recordGood, erased]
  simp

theorem erased_table {t : Nat} (table : 1 ≤ t ∧ t ≤ 8) : PresetMemory.erased.table t = List.replicate (3 + entryCount t * entrySize t) 0xFF := by
  have inside : t - 1 < 8 := by omega
  have number : t - 1 + 1 = t := by omega
  simp [PresetMemory.table, PresetMemory.erased, inside, number]

theorem recordsOk_erased : recordsOk PresetMemory.erased 8 = true := by
  rw [recordsOk_iff]
  intro t first last good
  rw [erased_table ⟨first, last⟩] at good
  rw [tableRecordGood, recordGood_erased] at good
  cases good

theorem placesOk_erased : PlacesOk PresetMemory.erased := by
  refine ⟨rfl, rfl, fun i => by simp [PresetMemory.erased], fun n => by simp [PresetMemory.erased]⟩

/-- Settles O4: the invariants begin with the part. -/
theorem invariantsAtReset : Obligations.InvariantsAtReset := by
  have stored : StoreOk State.reset :=
    { tables := Tables.default_inRange, places := placesOk_erased, header := .of_records recordsOk_erased, operation := fun e => by cases e }
  obtain ⟨tables, memory, image⟩ := (storeOk_iff _).1 stored
  exact ⟨LanesOk.reset rfl, ⟨Nat.zero_le _, rfl⟩, ⟨rfl, fun e => by cases e⟩, ⟨Nat.zero_le _, List.nodup_nil⟩, ⟨Nat.zero_le _, Nat.zero_le _⟩,
    fun _ => ⟨rfl, rfl⟩, tables, TitlesOk.reset rfl, FrozenOk.reset rfl (fun f e => by cases e),
    TimebaseOk.reset rfl rfl, memory, image⟩

/-! ### A cut write -/

theorem onePlaceCut_cutMemory (s : State) (reset : Bool) (n : Nat) : OnePlaceCut s (s.cutMemory reset n) := by
  unfold OnePlaceCut State.cutMemory
  cases s.preset.op with
  | saving v => exact ⟨_, rfl⟩
  | freezing f => exact ⟨_, rfl⟩
  | idle => rfl
  | startUp p => rfl
  | reloading v => rfl

/-- A reset that cuts a SAVE leaves a header that is not valid (R180, R182): of the first write at least the mark has reached the memory, and of the
last one at most a beginning, over the INVALID header. -/
theorem headerValid_cutSave {s : State} {v : Saving} (saving : s.preset.op = .saving v) (last : v.next ≤ 10) (n : Nat)
    (begun : 1 ≤ v.next → s.memory.header = headerRecord false) : headerValid (s.cutMemory true n).header = false := by
  have cut : s.cutMemory true n =
      s.memory.saveWrite v.next (cutWrite (s.memory.saveOld v.next) (s.saveBytes v.next) (cutSaveBytes true v.next n)) := by
    simp [State.cutMemory, saving]
  rw [cut]
  rcases Nat.eq_zero_or_pos v.next with first | later
  · rw [first]
    refine headerValid_invalidMark _ ?_
    simp [cutSaveBytes]
  · have held := begun later
    have started : ¬v.next = 0 := by omega
    by_cases final : v.next = 10
    · rw [final]
      show headerValid (cutWrite s.memory.header (headerRecord true) (cutSaveBytes true 10 n)) = false
      rw [held]
      have bound : cutSaveBytes true 10 n = 0 ∨ cutSaveBytes true 10 n = 1 ∨ cutSaveBytes true 10 n = 2 := by
        simp only [cutSaveBytes]
        simp
        omega
      rcases bound with e | e | e <;> rw [e] <;> decide
    · have same : (s.memory.saveWrite v.next (cutWrite (s.memory.saveOld v.next) (s.saveBytes v.next) (cutSaveBytes true v.next n))).header =
          s.memory.header := by
        unfold PresetMemory.saveWrite
        rw [if_neg started]
        split
        · rfl
        · rw [if_pos (by omega)]
      rw [same, held]
      exact headerValid_headerRecord_false

/-- Settles O5. -/
theorem hardResetResult : Obligations.HardResetResult := fun env s =>
  ⟨s.hardReset env, rfl, rfl, onePlaceCut_cutMemory s true env.written, fun _ saving last begun => headerValid_cutSave saving last _ begun⟩

/-- The cut of a write depends on the memory, the tables, the titles, the flags and the controller, not on the time. -/
theorem cutMemory_clockTo (s : State) (t : Micros) (reset : Bool) (n : Nat) : (s.clockTo t).cutMemory reset n = s.cutMemory reset n := by
  rcases s.clockTo_cases t with ⟨-, e⟩ | ⟨-, e⟩
  · rw [e]; rfl
  · rw [e]

theorem restartHold_eq (s : State) :
    s.restartHold = { episode := s.holdover, count := 0, fired := s.holdover && s.tables.site.holdLimit == 0, due := false } := by
  unfold State.restartHold
  cases s.holdover <;> rfl

/-- Settles O6. -/
theorem restartResult : Obligations.RestartResult := by
  intro env s d pending
  have ran : exec (.restartDeadline env) s = .next ((s.clockTo d).restart env) := by
    show Host.Outcome.next (s.restartDeadline env) = _
    rw [State.restartDeadline, pending]
  have holdover : (s.clockTo d).holdover = s.holdover := by simp [State.holdover]
  refine ⟨(s.clockTo d).restart env, ran, ?_, ?_, reset_lane, reset_title, rfl, rfl, rfl, rfl, rfl, reset_frozen, rfl, rfl⟩
  · have kept : (s.clockTo d).restartHold = { episode := s.holdover, count := 0, fired := s.holdover && s.tables.site.holdLimit == 0, due := false } := by
      rw [restartHold_eq, holdover, State.clockTo_tables]
    unfold State.restart
    rw [kept]
    simp
  · show OnePlaceCut s ((s.clockTo d).cutMemory true env.written)
    rw [cutMemory_clockTo]
    exact onePlaceCut_cutMemory s true env.written

end Sys2Proof.Safety
end

section
/-! PROOF. Orders that are taken: refused with a result, or carried out and answered (R11, R13, R14, R145 to R148, R157, R160 to R171, R180, R181). -/

namespace Sys2Proof.Machine

theorem State.unlessRefused_some {s : State} {refusal : Option Result} {x : Result} (h : refusal = some x) (r : Reply) (effect : State) :
    s.unlessRefused r refusal effect = s.reply r x [] := by
  rw [h]
  rfl

theorem State.unlessRefused_none {s : State} {refusal : Option Result} (h : refusal = none) (r : Reply) (effect : State) :
    s.unlessRefused r refusal effect = effect := by
  rw [h]
  rfl

theorem mem_laneNumbers (n : LaneNo) : n ∈ laneNumbers := by
  match n with
  | 0 => decide
  | 1 => decide
  | 2 => decide
  | 3 => decide

theorem anyNamed_eq_true {v : Byte} {p : LaneNo → Bool} : anyNamed v p = true ↔ ∃ n : LaneNo, v.getLsbD n.val = true ∧ p n = true := by
  simp [anyNamed, laneNamed, mem_laneNumbers]

theorem anyNamed_eq_false {v : Byte} {p : LaneNo → Bool} : anyNamed v p = false ↔ ∀ n : LaneNo, v.getLsbD n.val = true → p n = false := by
  simp [anyNamed, laneNamed, mem_laneNumbers]

end Sys2Proof.Machine

namespace Sys2Proof.Safety

open Machine

/-- An order that is for the part, in listen-only or not, is so by its address and the answer queue alone. -/
theorem Taken.same {s t : State} {o : OrderMsg} (h : Taken s o) (site : t.siteAddress = s.siteAddress)
    (queue : t.answers.queue = s.answers.queue) : Taken t o := by
  simpa [Taken, State.listenOnly, site, queue] using h

/-- The reply of a taken order. -/
def replyOf (o : OrderMsg) : Reply := { tag := o.tag, answered := decide (o.target ≠ 255) }

theorem Taken.reply_eq {s : State} {o : OrderMsg} (h : Taken s o) (x : Result) (d : List Byte) : s.reply (replyOf o) x d = answered s o x d :=
  h.reply x d

section

variable {s : State} {o : OrderMsg} {c : OrderMsg → Instr} {run : List Byte → Reply → State → State}

/-- A taken order runs on the part at its instant. -/
theorem Taken.ran (taken : Taken s o) (arm : exec (c o) s = .next (s.takeOrder o run)) :
    exec (c o) s = .next (run o.args (replyOf o) (s.clockAt o.time)) := by
  rw [arm, taken.run]
  rfl

/-- A taken order that leaves `u` and answers it. -/
theorem Taken.ends (taken : Taken s o) (arm : exec (c o) s = .next (s.takeOrder o run)) {u : State} {x : Result} {d : List Byte}
    (ends : run o.args (replyOf o) (s.clockAt o.time) = u.reply (replyOf o) x d) (site : u.siteAddress = s.siteAddress)
    (queue : u.answers.queue = s.answers.queue) : exec (c o) s = .next (answered u o x d) := by
  rw [taken.ran arm, ends, (taken.same site queue).reply_eq]

/-- A taken order refused. -/
theorem Taken.refused (taken : Taken s o) (arm : exec (c o) s = .next (s.takeOrder o run)) {x : Result}
    (ends : run o.args (replyOf o) (s.clockAt o.time) = (s.clockAt o.time).reply (replyOf o) x []) :
    exec (c o) s = .next (answered (s.clockAt o.time) o x []) := taken.ends arm ends rfl rfl

end

theorem answered_putLanes (s : State) (v : Vector Lane 4) (o : OrderMsg) (x : Result) (d : List Byte) :
    answered (s.putLanes v) o x d = { s with lanes := v, answers := (answered s o x d).answers } := by
  unfold answered
  split <;> rfl

@[simp] theorem answered_lanes (s : State) (o : OrderMsg) (x : Result) (d : List Byte) : (answered s o x d).lanes = s.lanes := by
  unfold answered
  split <;> rfl

/-! ### READ TABLE (R157) -/

theorem entrySize_le {t : Nat} (first : 1 ≤ t) (last : t ≤ 9) : 1 ≤ entrySize t ∧ entrySize t ≤ 49 := by
  obtain rfl | rfl | rfl | rfl | rfl | rfl | rfl | rfl | rfl : t = 1 ∨ t = 2 ∨ t = 3 ∨ t = 4 ∨ t = 5 ∨ t = 6 ∨ t = 7 ∨ t = 8 ∨ t = 9 := by omega
  all_goals decide

theorem noSuchTable_of_number {t : Byte} {rest : List Byte} (first : 1 ≤ t.toNat) (last : t.toNat ≤ 9) : noSuchTable (t :: rest) = false := by
  have low : ¬t.toNat < 1 := by omega
  have high : ¬9 < t.toNat := by omega
  simp [noSuchTable, byteAt, low, high]

/-- Settles O8. -/
theorem readTableResult : Obligations.ReadTableResult := by
  intro o s t f n args first last exists' some taken
  obtain ⟨low, high⟩ := entrySize_le first last
  have fits : 1 ≤ 52 / entrySize t.toNat := (Nat.le_div_iff_mul_le low).2 (by omega)
  have asked : 1 ≤ n.toNat := by
    rcases Nat.eq_zero_or_pos n.toNat with zero | pos
    · exact absurd (BitVec.eq_of_toNat_eq zero) some
    · exact pos
  have passed : readRefusal o.args = none := by
    have inside : ¬entryCount t.toNat ≤ f.toNat := by omega
    rw [args]
    simp [readRefusal, firstRefusal, noSuchTable_of_number first last, refuseLength, byteAt, inside]
    simpa using some
  refine ⟨_, rfl, by omega, taken.ends (c := .readTable) (run := orderReadTable) rfl ?_ rfl rfl⟩
  rw [orderReadTable, State.unlessRefused_none passed, args]
  simp [State.readData, returnedCount, byteAt, byteOf]

/-! ### Orders for others (R135, R145) -/

/-- Settles O12: every order command is the taking of the order. -/
theorem ordersForOthersPass : Obligations.OrdersForOthersPass := by
  intro c m o s other elsewhere
  have passes (run : List Byte → Reply → State → State) :
      (.next (s.takeOrder o run) : Host.Outcome State Fault Refusal) = .next (s.clockAt o.time) :=
    congrArg _ (takeOrder_none s o run other elsewhere)
  simp only [orderCommands, List.mem_cons, List.not_mem_nil, or_false] at m
  rcases m with rfl | rfl | rfl | rfl | rfl | rfl | rfl | rfl | rfl | rfl | rfl | rfl | rfl | rfl | rfl | rfl | rfl | rfl | rfl
  all_goals exact passes _

/-! ### LANE ON, LANE OFF (R11, R13) -/

theorem laneOnRefusal_eq {s : State} {v : Byte} (set : laneSetOk v = true) :
    s.laneOnRefusal [v] = if anyNamed v s.unsetLane then some .unset else none := by
  simp [State.laneOnRefusal, firstRefusal, refuseLength, byteAt, set]

theorem laneOffRefusal_eq {s : State} {v : Byte} (set : laneSetOk v = true) :
    s.laneOffRefusal [v] = if anyNamed v s.urgentOn then some .urgentActive else none := by
  simp [State.laneOffRefusal, firstRefusal, refuseLength, byteAt, set]

/-- Settles O15. -/
theorem laneOnResult : Obligations.LaneOnResult := by
  intro o s v args set taken
  have refusal := laneOnRefusal_eq (s := s.clockAt o.time) set
  refine ⟨fun stations => ?_, fun ⟨n, named, off, zero⟩ => ?_⟩
  · have none : anyNamed v (s.clockAt o.time).unsetLane = false := anyNamed_eq_false.2 fun n named => by
      simpa [State.unsetLane] using stations n named
    rw [none] at refusal
    have ran := taken.ends (c := .laneOn) (run := orderLaneOn) (u := (s.clockAt o.time).mapNamed v Lane.switchOn) (x := .done) (d := []) rfl
      (by rw [orderLaneOn, args]; exact State.unlessRefused_none refusal _ _) rfl rfl
    refine ⟨_, ran, ?_, fun n => ?_⟩
    · unfold State.mapNamed
      rw [answered_putLanes]
    · rw [answered_lanes, State.mapNamed_lane, State.clockAt_lanes]
      generalize s.lanes[n] = l
      cases named : v.getLsbD n.val
      · simp [laneNamed, named]
      · simp only [laneNamed, named, Bool.true_eq_false, if_true, if_false]
        cases l with | mk mode => cases mode <;> rfl
  · have some : anyNamed v (s.clockAt o.time).unsetLane = true := anyNamed_eq_true.2 ⟨n, named, by simpa [State.unsetLane] using ⟨off, zero⟩⟩
    rw [some] at refusal
    exact taken.refused (c := .laneOn) (run := orderLaneOn) rfl (by rw [orderLaneOn, args]; exact State.unlessRefused_some refusal _ _)

theorem cleared_eq (l : Lane) (toOff : Bool) : l.cleared toOff = cleared l toOff := rfl

theorem switchOff_eq (l : Lane) : l.switchOff =
    if l.mode = .off then l
    else if l.mode = .onAir ∧ l.onLine.isSome = true then { l with stop := .toOff }
    else cleared l true := by
  obtain ⟨mode, stop, line⟩ := l
  cases mode
  · rfl
  · rfl
  · cases line <;> rfl

/-- Settles O16. -/
theorem laneOffResult : Obligations.LaneOffResult := by
  intro o s v args set taken
  have refusal := laneOffRefusal_eq (s := s.clockAt o.time) set
  refine ⟨fun calm => ?_, fun ⟨n, named, urgent⟩ => ?_⟩
  · have none : anyNamed v (s.clockAt o.time).urgentOn = false := anyNamed_eq_false.2 calm
    rw [none] at refusal
    have ran := taken.ends (c := .laneOff) (run := orderLaneOff) (u := (s.clockAt o.time).mapNamed v Lane.switchOff) (x := .done) (d := []) rfl
      (by rw [orderLaneOff, args]; exact State.unlessRefused_none refusal _ _) rfl rfl
    refine ⟨_, ran, ?_, fun n => ?_⟩
    · unfold State.mapNamed
      rw [answered_putLanes]
    · rw [answered_lanes, State.mapNamed_lane, State.clockAt_lanes, switchOff_eq]
      cases named : v.getLsbD n.val
      · simp [laneNamed, named]
      · simp [laneNamed, named]
  · have some : anyNamed v (s.clockAt o.time).urgentOn = true := anyNamed_eq_true.2 ⟨n, named, urgent⟩
    rw [some] at refusal
    exact taken.refused (c := .laneOff) (run := orderLaneOff) rfl (by rw [orderLaneOff, args]; exact State.unlessRefused_some refusal _ _)

/-! ### Protection (R166 to R169) -/

theorem protectRefusal_eq {s : State} {args : List Byte} (two : args.length = 2) (idle : s.presetBusy = false) :
    s.protectRefusal args = if s.protect.lock then some .locked else if tableSetOk (tableSet args) then none else some .range := by
  cases lock : s.protect.lock <;> cases set : tableSetOk (tableSet args) <;>
    simp [State.protectRefusal, firstRefusal, refuseLength, two, State.refuseBusy, idle, lock, set]

theorem namedFlags_getLsbD (v : Half) (k : Fin 8) : (namedFlags v).getLsbD k.val = v.getLsbD (k.val + 1) := by
  simp [namedFlags, Nat.add_comm]

theorem putFlags_eq {p : Protect} (lock : p.lock = false) (f : BitVec 8) : ({ p with flags := f } : Protect) = { flags := f, lock := false } := by
  rw [← lock]

theorem setLockRefusal_eq {s : State} {args : List Byte} (form : args = [] ∨ args = [0] ∨ args = [1]) (idle : s.presetBusy = false) :
    s.setLockRefusal args = none := by
  rcases form with rfl | rfl | rfl <;> simp [State.setLockRefusal, firstRefusal, State.refuseBusy, idle, byteAt, yesNo?]

theorem setLock_eq {p : Protect} {args : List Byte} (form : args = [] ∨ args = [0] ∨ args = [1]) :
    p.setLock (args.length == 1 && byteAt args 0 == 1) = { flags := if p.lock = false ∧ args = [1] then 0xFF else p.flags, lock := true } := by
  obtain ⟨flags, lock⟩ := p
  rcases form with rfl | rfl | rfl <;> cases lock <;> simp [Protect.setLock, byteAt]

theorem clearLockRefusal_eq {s : State} (idle : s.presetBusy = false) :
    s.clearLockRefusal [] = if s.protect.lock = true ∧ s.guard = true then some .locked else none := by
  cases lock : s.protect.lock <;> cases guard : s.guard <;>
    simp [State.clearLockRefusal, firstRefusal, refuseArgs, State.refuseBusy, idle, lock, guard]

/-- Settles O13. -/
theorem protectionResults : Obligations.ProtectionResults := by
  refine ⟨fun o s taken idle clear two set => ?_, fun o s taken idle lock two => ?_, fun o s taken idle form => ?_,
    fun o s taken idle none => ?_, fun _ _ _ => rfl⟩
  · have passed : (s.clockAt o.time).protectRefusal o.args = none := by
      rw [protectRefusal_eq two (by simpa using idle)]
      simp [clear, set]
    refine ⟨⟨_, taken.ends (c := .protectTables) (run := orderProtect) rfl
        ((State.unlessRefused_none passed _ _).trans (by rw [putFlags_eq (p := (s.clockAt o.time).protect) clear])) rfl rfl, fun k => ?_⟩,
      ⟨_, taken.ends (c := .unprotectTables) (run := orderUnprotect) rfl
        ((State.unlessRefused_none passed _ _).trans (by rw [putFlags_eq (p := (s.clockAt o.time).protect) clear])) rfl rfl, fun k => ?_⟩⟩
    · rw [BitVec.getLsbD_or, namedFlags_getLsbD]
      rfl
    · rw [BitVec.getLsbD_and, BitVec.getLsbD_not, namedFlags_getLsbD]
      simp [State.protectFlag]
  · have refused : (s.clockAt o.time).protectRefusal o.args = some .locked := by
      rw [protectRefusal_eq two (by simpa using idle)]
      simp [lock]
    exact ⟨taken.refused (c := .protectTables) (run := orderProtect) rfl (State.unlessRefused_some refused _ _),
      taken.refused (c := .unprotectTables) (run := orderUnprotect) rfl (State.unlessRefused_some refused _ _)⟩
  · have passed : (s.clockAt o.time).setLockRefusal o.args = none := setLockRefusal_eq form (by simpa using idle)
    exact taken.ends (c := .setProtectLock) (run := orderSetLock) rfl
      ((State.unlessRefused_none passed _ _).trans (by rw [setLock_eq form]; rfl)) rfl rfl
  · have refusal : (s.clockAt o.time).clearLockRefusal [] = _ := clearLockRefusal_eq (by simpa using idle)
    rw [← none] at refusal
    split
    · next locked =>
      rw [if_pos (by simpa using locked)] at refusal
      exact taken.refused (c := .clearProtectLock) (run := orderClearLock) rfl (State.unlessRefused_some refusal _ _)
    · next open' =>
      rw [if_neg (by simpa using open')] at refusal
      exact taken.ends (c := .clearProtectLock) (run := orderClearLock) rfl (State.unlessRefused_none refusal _ _) rfl rfl

/-! ### FREEZE LANE (R171) -/

theorem freezeLane?_byteOf (n : LaneNo) (rest : List Byte) : freezeLane? (byteOf n.val :: rest) = some n := by
  have small : (byteOf n.val).toNat = n.val := toNat_byteOf (by omega)
  simp [freezeLane?, byteAt, small]

theorem freezeRefusal_eq_none {s : State} {n : LaneNo} (idle : s.presetBusy = false) (answers : s.preset.condition = .answering) :
    s.freezeRefusal (byteOf n.val :: be16 s.tables.lane[n].station) = none := by
  have code : halfAt (byteOf n.val :: be16 s.tables.lane[n].station) 1 = s.tables.lane[n].station := extract_be16 _
  simp only [State.freezeRefusal, freezeLane?_byteOf, code]
  simp [firstRefusal, refuseLength, State.refuseBusy, State.refuseSilent, idle, answers]

theorem orderFreezeLane_of_passed {s : State} {args : List Byte} {n : LaneNo} (passed : s.freezeRefusal args = none)
    (named : freezeLane? args = some n) (r : Reply) : orderFreezeLane args r s = s.freezeLane n r := by
  rw [orderFreezeLane, State.unlessRefused_none passed, named]

theorem CanEnd.same {s t : State} {r : Reply} (h : CanEnd s r) (site : t.siteAddress = s.siteAddress)
    (queue : t.answers.queue = s.answers.queue) : CanEnd t r := by
  simpa [CanEnd, State.listenOnly, site, queue] using h

/-- Settles O14. -/
theorem freezeResults : Obligations.FreezeResults := by
  refine ⟨fun o s n taken idle answers args => ?_, fun t k s f writing can => ⟨?_, ?_⟩⟩
  · have passed : (s.clockAt o.time).freezeRefusal o.args = none := by
      rw [args]
      exact freezeRefusal_eq_none (s := s.clockAt o.time) (by simpa using idle) answers
    have runs (r : Reply) : orderFreezeLane o.args r (s.clockAt o.time) = (s.clockAt o.time).freezeLane n r := by
      refine orderFreezeLane_of_passed passed ?_ r
      rw [args]
      exact freezeLane?_byteOf n _
    refine ⟨fun frozen => taken.ends (c := .freezeLane) (run := orderFreezeLane) rfl ?_ rfl rfl, fun free => ?_⟩
    · rw [runs, State.freezeLane, if_pos (by simpa using frozen)]
    · rw [taken.ran (c := .freezeLane) (run := orderFreezeLane) rfl, runs, State.freezeLane, if_neg (by simp [free])]
      rfl
  · have ran : exec (.freezeWriteComplete t true k) s = .next ((s.clockAt t).freezeWriteComplete true k) := rfl
    have op : (s.clockAt t).preset.op = .freezing f := writing
    rw [ran, State.freezeWriteComplete, op]
    dsimp only
    rw [if_pos rfl]
    refine congrArg _ (CanEnd.reply ?_ .done)
    exact can.same rfl rfl
  · have ran : exec (.freezeWriteComplete t false k) s = .next ((s.clockAt t).freezeWriteComplete false k) := rfl
    have op : (s.clockAt t).preset.op = .freezing f := writing
    have cut : (s.clockAt t).cutMemory false k =
        { s.memory with
          freeze := s.memory.freeze.set f.lane (cutWrite s.memory.freeze[f.lane] (freezeRecord f.lane f.station f.zone) k) } := by
      rw [State.cutMemory, op]
      rfl
    refine ⟨cutWrite s.memory.freeze[f.lane] (freezeRecord f.lane f.station f.zone) k, ?_⟩
    rw [ran, State.freezeWriteComplete, op]
    dsimp only
    rw [if_neg Bool.false_ne_true, cut]
    refine congrArg _ (CanEnd.reply ?_ .noPreset)
    exact can.same rfl rfl

/-! ### SAVE PRESET, LOAD PRESET (R180, R181) -/

theorem saveRefusal_eq_none {s : State} (idle : s.presetBusy = false) (answers : s.preset.condition = .answering) : s.saveRefusal [] = none := by
  simp [State.saveRefusal, firstRefusal, refuseArgs, State.refuseBusy, State.refuseSilent, idle, answers]

theorem loadRefusal_eq {s : State} (idle : s.presetBusy = false) (answers : s.preset.condition = .answering) :
    s.loadRefusal [] = if s.timebase.mode = .stopped ∧ s.timebase.stopPending = false then none else some .onAir := by
  by_cases mode : s.timebase.mode = .stopped <;> cases stop : s.timebase.stopPending <;>
    simp [State.loadRefusal, firstRefusal, refuseArgs, State.refuseBusy, State.refuseSilent, idle, answers, mode, stop]

/-- Settles O19. -/
theorem presetOrdersTaken : Obligations.PresetOrdersTaken := by
  intro o s none taken idle answers
  have idle' : (s.clockAt o.time).presetBusy = false := by simpa using idle
  have saves : (s.clockAt o.time).saveRefusal o.args = .none := by
    rw [none]
    exact saveRefusal_eq_none idle' answers
  have loads : (s.clockAt o.time).loadRefusal o.args = _ := none ▸ loadRefusal_eq idle' answers
  refine ⟨?_, fun stopped still => ?_, fun running => ?_⟩
  · rw [taken.ran (c := .savePreset) (run := orderSavePreset) rfl, orderSavePreset, State.unlessRefused_none saves]
    rfl
  · rw [if_pos (by simpa using ⟨stopped, still⟩)] at loads
    have ran := taken.ran (c := .loadPreset) (run := orderLoadPreset) rfl
    rw [orderLoadPreset, State.unlessRefused_none loads] at ran
    exact ⟨_, ran, rfl, rfl, rfl, rfl, rfl⟩
  · rw [if_neg (by simp [running])] at loads
    exact taken.refused (c := .loadPreset) (run := orderLoadPreset) rfl (State.unlessRefused_some loads _ _)

/-! ### CLEAR EVENTS, SET MARKER, RESTART (R161, R163, R164) -/

theorem orderRestart_nil (r : Reply) (s : State) :
    orderRestart [] r s =
      if r.answered then
        (s.putAnswers { s.answers with restartAt := some (s.answers.restartAt.getD (s.clock + 200000)) }).queueAnswer
          { tag := r.tag, result := .done, data := [], ofRestart := true }
      else s.putAnswers { s.answers with restartAt := some (s.answers.restartAt.getD (s.clock + 200000)) } := by
  unfold orderRestart
  cases s.answers.restartAt <;> rfl

/-- Settles O22. -/
theorem eventMarkerRestartResults : Obligations.EventMarkerRestartResults := by
  refine ⟨fun o s two members taken => ?_, fun o s none taken => ?_, fun o s none taken => ?_⟩
  · have passed := eventSetRefusal_eq_none two members
    have lost : (eventSet o.args).getLsbD Event.answerLost.number = (halfAt o.args 0).getLsbD 11 := eventSet_getLsbD o.args .answerLost
    have clears : s.answers.clear (eventSet o.args) = { s.answers with
        latches := s.answers.latches &&& ~~~eventSet o.args, lost := if (halfAt o.args 0).getLsbD 11 then 0 else s.answers.lost } := by
      rw [AnswerUnit.clear, lost]
    refine ⟨_, taken.ends (c := .clearEvents) (run := orderClearEvents) rfl
      ((State.unlessRefused_none passed _ _).trans (by rw [State.clockAt_answers, clears])) rfl rfl, fun e => ?_⟩
    rw [BitVec.getLsbD_and, BitVec.getLsbD_not, eventSet_getLsbD]
    simp [State.latched, e.number_lt]
  · exact taken.ends (c := .setMarker) (run := orderSetMarker) rfl (by rw [none]; rfl) rfl rfl
  · rw [taken.ran (c := .restart) (run := orderRestart) rfl, none, orderRestart_nil]
    by_cases all : o.target = 255
    · simp [replyOf, all]
    · obtain ⟨-, speaks, room⟩ := taken.addressed all
      have speaks' (u : AnswerUnit) : ((s.clockAt o.time).putAnswers u).listenOnly = false := speaks
      have own : ¬o.target = 255#8 := all
      simp [replyOf, own, State.queueAnswer, speaks', AnswerUnit.join, room]

end Sys2Proof.Safety
end

section
/-! PROOF. STOP AIR (R14, R118), the answer queue and the latches (R149, R152, R153), and what an insertion takes (R137). -/

namespace Sys2Proof.Machine

/-! ### STOP AIR -/

/-- STOP AIR on the timebase changes the timebase and the SYNC line alone (R118). -/
theorem State.stopTimebase_eq (s : State) :
    s.stopTimebase =
      if s.timebase.mode = .stopped ∨ (s.timebase.mode.onGrid = true ∧ s.timebase.stopPending = true) then s
      else if s.timebase.mode.onGrid = true ∧ s.timebase.onLine.isSome = true then
        s.putTimebase { s.timebase with stopPending := true, lastOfGrid := true, built := none, earlyFor := none }
      else s.enterStopped := by
  unfold State.stopTimebase
  cases mode : s.timebase.mode <;> simp [TbMode.onGrid]

theorem State.stopTimebase_frame (s : State) : ∃ b y, s.stopTimebase = (s.putTimebase b).putSync y := by
  rw [State.stopTimebase_eq]
  split
  · exact ⟨s.timebase, s.sync, rfl⟩
  · split
    · exact ⟨{ s.timebase with stopPending := true, lastOfGrid := true, built := none, earlyFor := none }, s.sync, rfl⟩
    · exact ⟨_, _, rfl⟩

/-! ### What an insertion takes (R137) -/

/-- The answers inserted are the longest beginning of the queue that fits: by the recursion of `fitting`, each answer that goes in moving the place of
the next. -/
theorem fitting_longest (q : List Answer) (p : Nat) (inside : p ≤ 64) :
    ∃ rest, q = fitting p q ++ rest ∧ p + ((fitting p q).map Answer.size).sum ≤ 64 ∧
      ∀ a more, rest = a :: more → 64 < p + ((fitting p q).map Answer.size).sum + a.size := by
  induction q generalizing p with
  | nil => exact ⟨[], rfl, by simpa [fitting] using inside, fun _ _ e => nomatch e⟩
  | cons a q ih =>
    by_cases fits : p + a.size ≤ 64
    · obtain ⟨rest, whole, within, next⟩ := ih (p + a.size) fits
      have taken : fitting p (a :: q) = a :: fitting (p + a.size) q := if_pos fits
      have sum : p + ((fitting p (a :: q)).map Answer.size).sum = p + a.size + ((fitting (p + a.size) q).map Answer.size).sum := by
        rw [taken, List.map_cons, List.sum_cons]
        omega
      refine ⟨rest, ?_, by rw [sum]; exact within, fun b more e => by rw [sum]; exact next b more e⟩
      rw [taken, List.cons_append, ← whole]
    · have none : fitting p (a :: q) = [] := if_neg fits
      refine ⟨a :: q, by rw [none]; rfl, by rw [none]; simpa using inside, fun b more e => ?_⟩
      obtain ⟨rfl, -⟩ := List.cons.inj e
      rw [none]
      simpa using fits

/-! ### A full answer queue (R149) -/

/-- A part outside listen-only with the answer queue `q`, a full one. -/
def Full (q : List Answer) (s : State) : Prop := s.listenOnly = false ∧ s.answers.queue = q ∧ 8 ≤ q.length

variable {q : List Answer} {s t : State}

theorem Full.same (h : Full q s) (site : t.siteAddress = s.siteAddress) (queue : t.answers.queue = s.answers.queue) : Full q t := by
  obtain ⟨speaks, holds, full⟩ := h
  refine ⟨?_, queue.trans holds, full⟩
  rwa [State.listenOnly, site]

theorem AnswerUnit.join_full {u : AnswerUnit} (full : 8 ≤ u.queue.length) (a : Answer) :
    u.join a = { u with lost := min 255 (u.lost + 1), latches := u.latches ||| Event.answerLost.bit } := by
  have counted : (if u.lost < 255 then u.lost + 1 else 255) = min 255 (u.lost + 1) := by
    split <;> omega
  rw [AnswerUnit.join, if_neg (by omega), counted]

theorem Full.queueAnswer_eq (h : Full q s) (a : Answer) : s.queueAnswer a = Safety.dropped s := by
  obtain ⟨speaks, rfl, full⟩ := h
  rw [State.queueAnswer, if_neg (by simp [speaks]), AnswerUnit.join_full full]
  rfl

theorem Full.dropped (h : Full q s) : Full q (Safety.dropped s) := h.same rfl rfl

theorem Full.latch (h : Full q s) (e : Event) : Full q (s.latch e) := by
  have set : Full q (s.putAnswers { s.answers with latches := s.answers.latches ||| e.bit }) := h.same rfl rfl
  unfold State.latch
  split
  · exact h
  · dsimp only
    split
    · rw [set.queueAnswer_eq]
      exact set.dropped
    · exact set

theorem Full.latchAll (h : Full q s) (l : List Event) : Full q (s.latchAll l) :=
  List.foldlRecOn (motive := Full q) l _ h fun _ h e _ => h.latch e

theorem Full.startAir (h : Full q s) : Full q s.startAir := by
  unfold State.startAir
  split
  · split
    · exact h.same rfl rfl
    · refine List.foldlRecOn (motive := Full q) _ _ (h.same rfl rfl) fun u full n _ => ?_
      rw [State.laneBuild_eq]
      exact (full.same rfl rfl : Full q (u.putLane n _)).latchAll _
  · exact h

theorem Full.stopAir (h : Full q s) : Full q s.stopAir := by
  obtain ⟨b, y, e⟩ := (s.mapLanes Lane.stopAir).stopTimebase_frame
  rw [State.stopAir, e]
  exact h.same rfl rfl

/-- The part of a full queue with one more answer counted as lost. -/
def Lost (q : List Answer) (t : State) : Prop := ∃ u, Full q u ∧ t = Safety.dropped u

theorem Lost.full (h : Lost q t) : Full q t := by
  obtain ⟨u, full, rfl⟩ := h
  exact full.dropped

theorem Lost.counted (h : Lost q t) : t.latched .answerLost = true ∧ 1 ≤ t.answers.lost := by
  obtain ⟨u, -, rfl⟩ := h
  refine ⟨?_, ?_⟩
  · simp [Safety.dropped, State.latched, Event.number, Event.bit]
  · have (n : Nat) : 1 ≤ min 255 (n + 1) := by omega
    exact this _

section

variable {r : Reply}

theorem Full.reply (h : Full q s) (answered : r.answered = true) (x : Result) (d : List Byte) : Lost q (s.reply r x d) := by
  refine ⟨s, h, ?_⟩
  rw [State.reply, if_pos answered, h.queueAnswer_eq]

theorem Full.unlessRefused (h : Full q s) (answered : r.answered = true) {effect : State} (refusal : Option Result) (effected : Lost q effect) :
    Lost q (s.unlessRefused r refusal effect) := by
  cases refusal with
  | none => exact effected
  | some x => exact h.reply answered x []

theorem Full.unlessRefused_kept (h : Full q s) (answered : r.answered = true) {effect : State} (refusal : Option Result) (effected : Full q effect) :
    Full q (s.unlessRefused r refusal effect) := by
  cases refusal with
  | none => exact effected
  | some x => exact (h.reply answered x []).full

theorem firstRefusal_cons_true (x : Result) (l : List (Bool × Result)) : firstRefusal ((true, x) :: l) = some x := rfl

theorem refuseArgs_cons (b : Byte) (l : List Byte) : refuseArgs (b :: l) = (true, .malformed) := rfl

variable {args : List Byte}

/-- An order that takes no argument but has some is answered MALFORMED, whatever its other checks. -/
theorem Full.malformed (h : Full q s) (answered : r.answered = true) (given : args ≠ []) (l : List (Bool × Result)) (effect : State) :
    s.unlessRefused r (firstRefusal (refuseArgs args :: l)) effect = Safety.dropped s := by
  obtain ⟨b, rest, rfl⟩ := List.exists_cons_of_ne_nil given
  rw [refuseArgs_cons, firstRefusal_cons_true]
  exact (if_pos answered).trans (h.queueAnswer_eq _)

theorem Full.orderRestart (h : Full q s) (answered : r.answered = true) : Lost q (orderRestart args r s) := by
  refine h.unlessRefused answered _ ?_
  dsimp only
  rw [if_pos answered]
  refine ⟨_, ?_, Full.queueAnswer_eq (q := q) ?_ _⟩
  · exact h.same rfl rfl
  · exact h.same rfl rfl

theorem Full.orderFreezeLane (h : Full q s) (answered : r.answered = true) : Full q (orderFreezeLane args r s) := by
  refine h.unlessRefused_kept answered _ ?_
  split
  · next n _ =>
    unfold State.freezeLane
    split
    · exact (h.reply answered .done []).full
    · exact h.same rfl rfl
  · exact h

end

/-- At a full queue an order that is answered when it is taken has its answer counted as lost: what it does before leaves the queue. -/
def AnswerLost (run : List Byte → Reply → State → State) : Prop :=
  ∀ (q : List Answer) (s : State) (args : List Byte) (r : Reply), Full q s → r.answered = true → Lost q (run args r s)

theorem answerLost_of_kept {run : List Byte → Reply → State → State} (effect : List Byte → State → State)
    (kept : ∀ q s args, Full q s → Full q (effect args s))
    (form : ∀ args r s, ∃ refusal x d, run args r s = s.unlessRefused r refusal ((effect args s).reply r x d)) : AnswerLost run := by
  intro q s args r full answered
  obtain ⟨refusal, x, d, e⟩ := form args r s
  rw [e]
  exact full.unlessRefused answered refusal ((kept q s args full).reply answered x d)

theorem answerLost_orderPoll : AnswerLost orderPoll :=
  answerLost_of_kept (fun _ s => s) (fun _ _ _ h => h) fun _ _ _ => ⟨_, _, _, rfl⟩

theorem answerLost_orderReadTable : AnswerLost orderReadTable :=
  answerLost_of_kept (fun _ s => s) (fun _ _ _ h => h) fun _ _ _ => ⟨_, _, _, rfl⟩

theorem answerLost_orderWriteTable : AnswerLost orderWriteTable :=
  answerLost_of_kept (fun args s => s.storeWrite (WriteArgs.read args))
    (fun _ s _ h => h.same (State.changeTables_siteAddress s _) (congrArg AnswerUnit.queue (State.changeTables_answers s _)))
    fun _ _ _ => ⟨_, _, _, rfl⟩

theorem answerLost_orderProtect : AnswerLost orderProtect :=
  answerLost_of_kept (fun args s => s.putProtect { s.protect with flags := s.protect.flags ||| namedFlags (tableSet args) })
    (fun _ _ _ h => h.same rfl rfl) fun _ _ _ => ⟨_, _, _, rfl⟩

theorem answerLost_orderUnprotect : AnswerLost orderUnprotect :=
  answerLost_of_kept (fun args s => s.putProtect { s.protect with flags := s.protect.flags &&& ~~~namedFlags (tableSet args) })
    (fun _ _ _ h => h.same rfl rfl) fun _ _ _ => ⟨_, _, _, rfl⟩

theorem answerLost_orderSetLock : AnswerLost orderSetLock :=
  answerLost_of_kept (fun args s => s.putProtect (s.protect.setLock (args.length == 1 && byteAt args 0 == 1)))
    (fun _ _ _ h => h.same rfl rfl) fun _ _ _ => ⟨_, _, _, rfl⟩

theorem answerLost_orderClearLock : AnswerLost orderClearLock :=
  answerLost_of_kept (fun _ s => s.putProtect { s.protect with lock := false })
    (fun _ _ _ h => h.same rfl rfl) fun _ _ _ => ⟨_, _, _, rfl⟩

theorem answerLost_orderLaneOn : AnswerLost orderLaneOn :=
  answerLost_of_kept (fun args s => s.mapNamed (byteAt args 0) Lane.switchOn) (fun _ _ _ h => h.same rfl rfl) fun _ _ _ => ⟨_, _, _, rfl⟩

theorem answerLost_orderLaneOff : AnswerLost orderLaneOff :=
  answerLost_of_kept (fun args s => s.mapNamed (byteAt args 0) Lane.switchOff) (fun _ _ _ h => h.same rfl rfl) fun _ _ _ => ⟨_, _, _, rfl⟩

theorem answerLost_orderStartAir : AnswerLost orderStartAir :=
  answerLost_of_kept (fun _ s => s.startAir) (fun _ _ _ h => h.startAir) fun _ _ _ => ⟨_, _, _, rfl⟩

theorem answerLost_orderStopAir : AnswerLost orderStopAir :=
  answerLost_of_kept (fun _ s => s.stopAir) (fun _ _ _ h => h.stopAir) fun _ _ _ => ⟨_, _, _, rfl⟩

theorem answerLost_orderReadEvents : AnswerLost orderReadEvents :=
  answerLost_of_kept (fun _ s => s) (fun _ _ _ h => h) fun _ _ _ => ⟨_, _, _, rfl⟩

theorem answerLost_orderClearEvents : AnswerLost orderClearEvents :=
  answerLost_of_kept (fun args s => s.putAnswers (s.answers.clear (eventSet args)))
    (fun _ _ _ h => h.same rfl rfl) fun _ _ _ => ⟨_, _, _, rfl⟩

theorem answerLost_orderSetAlertMask : AnswerLost orderSetAlertMask :=
  answerLost_of_kept (fun args s => s.putAnswers { s.answers with mask := eventSet args })
    (fun _ _ _ h => h.same rfl rfl) fun _ _ _ => ⟨_, _, _, rfl⟩

theorem answerLost_orderSetMarker : AnswerLost orderSetMarker :=
  answerLost_of_kept (fun _ s => s.putAnswers { s.answers with marker := true })
    (fun _ _ _ h => h.same rfl rfl) fun _ _ _ => ⟨_, _, _, rfl⟩

theorem answerLost_orderRestart : AnswerLost orderRestart := fun _ _ _ _ h answered => h.orderRestart answered

end Sys2Proof.Machine

namespace Sys2Proof.Safety

open Machine

/-! ### STOP AIR -/

theorem Lane.stopAir_eq (l : Lane) :
    l.stopAir =
      if l.mode = .onAir then
        if l.onLine.isSome = true then { l with stop := if l.stop = .none then .toWaiting else l.stop } else cleared l (l.stop == .toOff)
      else if l.mode = .waiting then { l with inBuild := none }
      else l := by
  obtain ⟨mode, stop, line⟩ := l
  cases mode
  · rfl
  · rfl
  · cases line
    · rfl
    · cases stop <;> rfl

@[simp] theorem answered_timebase (s : State) (o : OrderMsg) (x : Result) (d : List Byte) : (answered s o x d).timebase = s.timebase := by
  unfold answered
  split <;> rfl

@[simp] theorem answered_sync (s : State) (o : OrderMsg) (x : Result) (d : List Byte) : (answered s o x d).sync = s.sync := by
  unfold answered
  split <;> rfl

/-- A part that answers after its lanes, its timebase and its SYNC line have changed. -/
theorem answered_air (s : State) (v : Vector Lane 4) (b : Timebase) (y : SyncLine) (o : OrderMsg) (x : Result) (d : List Byte) :
    answered (((s.putLanes v).putTimebase b).putSync y) o x d =
      { s with lanes := v, timebase := b, sync := y, answers := (answered s o x d).answers } := by
  unfold answered
  split <;> rfl

theorem stopAirRefusal_eq {s : State} : s.stopAirRefusal [] = if laneNumbers.any s.urgentOn then some .urgentActive else none := by
  simp [State.stopAirRefusal, firstRefusal, refuseArgs]

/-- Settles O18. -/
theorem stopAirResult : Obligations.StopAirResult := by
  refine ⟨fun o s none taken calm => ?_, fun o s n none taken urgent => ?_⟩
  · have refusal : (s.clockAt o.time).stopAirRefusal o.args = .none := by
      rw [none, stopAirRefusal_eq, if_neg]
      simpa [laneNumbers] using ⟨calm 0, calm 1, calm 2, calm 3⟩
    have stops : (s.clockAt o.time).stopAir = ((s.clockAt o.time).mapLanes Lane.stopAir).stopTimebase := rfl
    obtain ⟨b, y, frame⟩ := ((s.clockAt o.time).mapLanes Lane.stopAir).stopTimebase_frame
    have ran := taken.ends (c := .stopAir) (run := orderStopAir) (x := .done) (d := []) rfl (State.unlessRefused_none refusal _ _)
      (by rw [stops, frame]; rfl) (by rw [stops, frame]; rfl)
    refine ⟨_, ran, ?_, fun n => ?_, ?_⟩
    · rw [stops, frame, State.mapLanes, answered_air]
    · have stopped : (answered (s.clockAt o.time).stopAir o .done []).lanes[n] = s.lanes[n].stopAir := by
        rw [answered_lanes, stops, frame]
        exact State.mapLanes_lane _ _ n
      rw [stopped, Lane.stopAir_eq]
      generalize s.lanes[n] = l
      cases l with | mk mode => cases mode <;> rfl
    · rw [answered_timebase, answered_sync, stops, State.stopTimebase_eq]
      simp only [State.mapLanes_timebase, State.clockAt_timebase]
      split
      · exact ⟨rfl, rfl⟩
      · split
        · exact ⟨rfl, rfl⟩
        · exact ⟨rfl, rfl⟩
  · have refusal : (s.clockAt o.time).stopAirRefusal o.args = some .urgentActive := by
      rw [none, stopAirRefusal_eq, if_pos]
      exact List.any_eq_true.2 ⟨n, mem_laneNumbers n, urgent⟩
    exact taken.refused (c := .stopAir) (run := orderStopAir) rfl (State.unlessRefused_some refusal _ _)

/-- Settles O27. -/
theorem insertionTakesPrefix : Obligations.InsertionTakesPrefix := fun p q inside => fitting_longest q p inside

/-! ### Events and answers (R149, R152, R153) -/

/-- An order to the part's own address runs on the part at its instant, and is answered. -/
theorem takeOrder_own {s : State} {o : OrderMsg} (own : o.target = s.siteAddress) (speaks : s.listenOnly = false)
    (run : List Byte → Reply → State → State) :
    s.takeOrder o run = run o.args { tag := o.tag, answered := true } (s.clockAt o.time) := by
  have one : ¬s.siteAddress = 255#8 := by
    intro all
    simp [State.listenOnly, all] at speaks
  unfold State.takeOrder State.recipient
  simp [own, one, speaks]

section

variable {q : List Answer} {s : State} {o : OrderMsg} {c : OrderMsg → Instr} {run : List Byte → Reply → State → State}

/-- At a full queue an order to the part's own address that is answered when it is taken has its answer counted as lost. -/
theorem exec_answerLost (own : o.target = s.siteAddress) (full : Full q s) (lost : AnswerLost run)
    (arm : exec (c o) s = .next (s.takeOrder o run)) : ∃ t, exec (c o) s = .next t ∧ Lost q t := by
  rw [arm, takeOrder_own own full.1]
  exact ⟨_, rfl, lost q _ _ _ (full.same rfl rfl) rfl⟩

/-- At a full queue the answer MALFORMED of an order that takes no argument but has some is dropped. -/
theorem exec_malformed_dropped (own : o.target = s.siteAddress) (full : Full q s) (given : o.args ≠ [])
    (arm : exec (c o) s = .next (s.takeOrder o run))
    (form : ∃ l effect, run o.args { tag := o.tag, answered := true } (s.clockAt o.time) =
      (s.clockAt o.time).unlessRefused { tag := o.tag, answered := true } (firstRefusal (refuseArgs o.args :: l)) effect) :
    exec (c o) s = .next (dropped (s.clockAt o.time)) := by
  obtain ⟨l, effect, e⟩ := form
  have now : Full q (s.clockAt o.time) := full.same rfl rfl
  rw [arm, takeOrder_own own full.1, e, now.malformed rfl given]

/-- At a full queue an order to the part's own address leaves the queue where its effect does. -/
theorem exec_queue (own : o.target = s.siteAddress) (full : Full q s) (arm : exec (c o) s = .next (s.takeOrder o run))
    (kept : ∀ r : Reply, r.answered = true → Full q (run o.args r (s.clockAt o.time))) :
    ∃ t, exec (c o) s = .next t ∧ t.answers.queue = s.answers.queue := by
  rw [arm, takeOrder_own own full.1]
  refine ⟨_, rfl, ?_⟩
  rw [(kept _ rfl).2.1, full.2.1]

theorem exec_prompt (own : o.target = s.siteAddress) (full : Full q s) : ∀ c ∈ promptCommands, ∃ t, exec (c o) s = .next t ∧ Lost q t := by
  have lost {c : OrderMsg → Instr} {run : List Byte → Reply → State → State} := exec_answerLost (c := c) (run := run) own full
  simp only [promptCommands, List.forall_mem_cons]
  exact ⟨lost answerLost_orderPoll rfl, lost answerLost_orderReadTable rfl, lost answerLost_orderWriteTable rfl, lost answerLost_orderProtect rfl,
    lost answerLost_orderUnprotect rfl, lost answerLost_orderSetLock rfl, lost answerLost_orderClearLock rfl, lost answerLost_orderLaneOn rfl,
    lost answerLost_orderLaneOff rfl, lost answerLost_orderStartAir rfl, lost answerLost_orderStopAir rfl, lost answerLost_orderReadEvents rfl,
    lost answerLost_orderClearEvents rfl, lost answerLost_orderSetAlertMask rfl, lost answerLost_orderSetMarker rfl,
    lost answerLost_orderRestart rfl, nofun⟩

end

/-- The orders that are not answered when they are taken are the three timed ones (R145). -/
theorem timed_or_prompt {c : OrderMsg → Instr} (listed : c ∈ orderCommands) :
    c ∈ promptCommands ∨ c = .savePreset ∨ c = .loadPreset ∨ c = .freezeLane := by
  simp only [orderCommands, promptCommands, List.mem_cons, List.not_mem_nil, or_false] at listed ⊢
  tauto

/-- An event with an open latch that is clear sets it and queues an ALERT with all latches. -/
theorem latch_opened {s : State} {e : Event} (clear : s.latched e = false) (opened : s.answers.mask.getLsbD e.number = true) (other : e ≠ .answerLost) :
    s.latch e = (s.putAnswers { s.answers with latches := s.answers.latches ||| e.bit }).queueAnswer
      { tag := 0, result := .alert, data := be16 ((s.answers.latches ||| e.bit).setWidth 16), ofRestart := false } := by
  simp [State.latch, clear, opened, other, eventBytes]

/-- Settles O23. -/
theorem latchRaisesAlert : Obligations.LatchRaisesAlert := by
  refine ⟨fun s e => ⟨State.latch_of_latched, fun clear mute => ?_, fun clear opened other speaks => ⟨fun room => ?_, fun full => ?_⟩⟩,
    fun s a => ⟨fun silent => ?_, fun speaks room => ?_, fun speaks full => ?_⟩, fun o s own speaks full => ?_⟩
  · rcases mute with closed | rfl | silent
    · simp [State.latch, clear, closed]
    · simp [State.latch, clear]
    · have silent' (u : AnswerUnit) : (s.putAnswers u).listenOnly = true := silent
      simp [State.latch, clear, State.queueAnswer, silent']
  · rw [latch_opened clear opened other, State.queueAnswer, if_neg (by simpa [State.listenOnly] using speaks), AnswerUnit.join]
    exact congrArg (State.putAnswers _) (if_pos room)
  · rw [latch_opened clear opened other]
    have set : Full s.answers.queue (s.putAnswers { s.answers with latches := s.answers.latches ||| e.bit }) := ⟨speaks, rfl, full⟩
    exact set.queueAnswer_eq _
  · rw [State.queueAnswer, if_pos silent]
  · rw [State.queueAnswer, if_neg (by simp [speaks]), AnswerUnit.join, if_pos room]
  · exact Full.queueAnswer_eq ⟨speaks, rfl, full⟩ a
  · have held : Full s.answers.queue s := ⟨speaks, rfl, full⟩
    have now : Full s.answers.queue (s.clockAt o.time) := held.same rfl rfl
    refine ⟨fun none => ?_, fun given => ?_, fun c listed => ?_, fun c listed => ?_⟩
    · have poll : exec (.poll o) s = .next (s.takeOrder o orderPoll) := rfl
      rw [poll, takeOrder_own own speaks, none]
      exact congrArg _ (now.queueAnswer_eq _)
    · have bad {c : OrderMsg → Instr} {run : List Byte → Reply → State → State} := exec_malformed_dropped (c := c) (run := run) own held given
      simp only [bareCommands, List.forall_mem_cons]
      exact ⟨bad (run := orderPoll) rfl ⟨_, _, rfl⟩, bad (run := orderClearLock) rfl ⟨_, _, rfl⟩, bad (run := orderStartAir) rfl ⟨_, _, rfl⟩,
        bad (run := orderStopAir) rfl ⟨_, _, rfl⟩, bad (run := orderSavePreset) rfl ⟨_, _, rfl⟩, bad (run := orderLoadPreset) rfl ⟨_, _, rfl⟩,
        bad (run := orderReadEvents) rfl ⟨_, _, rfl⟩, bad (run := orderSetMarker) rfl ⟨_, _, rfl⟩, bad (run := orderRestart) rfl ⟨_, _, rfl⟩, nofun⟩
    · rcases timed_or_prompt listed with prompt | rfl | rfl | rfl
      · obtain ⟨t, ran, lost⟩ := exec_prompt own held c prompt
        exact ⟨t, ran, lost.full.2.1⟩
      · exact exec_queue own held (run := orderSavePreset) rfl fun r answered => now.unlessRefused_kept answered _ (now.same rfl rfl)
      · exact exec_queue own held (run := orderLoadPreset) rfl fun r answered => now.unlessRefused_kept answered _ (now.same rfl rfl)
      · exact exec_queue own held (run := orderFreezeLane) rfl fun r answered => now.orderFreezeLane answered
    · obtain ⟨t, ran, lost⟩ := exec_prompt own held c listed
      exact ⟨t, ran, lost.counted⟩

end Sys2Proof.Safety
end

section
/-! PROOF. The refusals of orders, each with its result (R146 to R148, R157, R158, R165 to R171). -/

namespace Sys2Proof.Machine

/-! ### The conditions of a WRITE TABLE, entry by entry -/

theorem writeArgs_read (t f n : Byte) (rest : List Byte) :
    WriteArgs.read (t :: f :: n :: rest) =
      { table := t.toNat, first := f.toNat, count := n.toNat, entries := cutEntries (entrySize t.toNat) n.toNat rest } := rfl

/-- Some entry of a write meets a condition: by its place among the bytes and its index in the table. -/
theorem anyEntry_eq_true {t first count size : Nat} {rest : List Byte} {p : Nat → List Byte → Bool} :
    (WriteArgs.mk t first count (cutEntries size count rest)).anyEntry p = true ↔
      ∃ k, k < count ∧ p (first + k) ((rest.drop (k * size)).take size) = true := by
  simp only [WriteArgs.anyEntry, List.any_eq_true, Prod.exists, List.mk_mem_zipIdx_iff_le_and_getElem?_sub, cutEntries]
  constructor
  · rintro ⟨l, i, ⟨le, at'⟩, holds⟩
    obtain ⟨inside, rfl⟩ := List.getElem?_eq_some_iff.1 at'
    refine ⟨i - first, by simpa using inside, ?_⟩
    rw [Nat.add_sub_cancel' le]
    simpa using holds
  · rintro ⟨k, inside, holds⟩
    refine ⟨_, first + k, ⟨Nat.le_add_right _ _, ?_⟩, holds⟩
    simp [inside]

theorem mem_cutEntries {size count : Nat} {rest l : List Byte} :
    l ∈ cutEntries size count rest ↔ ∃ k, k < count ∧ (rest.drop (k * size)).take size = l := by
  simp [cutEntries]

section

variable {s : State} {t f n : Byte} {rest : List Byte}

/-- The checks of a WRITE TABLE of the right form of a table that can be written, in the order of R147. -/
theorem State.writeRefusal_of_form (first : 1 ≤ t.toNat) (last : t.toNat ≤ 8) (form : rest.length = n.toNat * entrySize t.toNat) :
    s.writeRefusal (t :: f :: n :: rest) =
      firstRefusal [s.refuseBusy, (s.protectFlag t.toNat, .isProtected),
        (n.toNat == 0 || decide (entryCount t.toNat < f.toNat + n.toNat) ||
          (cutEntries (entrySize t.toNat) n.toNat rest).any (fun l => !entryOk t.toNat l), .range),
        (s.writeOnAir (WriteArgs.read (t :: f :: n :: rest)), .onAir),
        ((WriteArgs.read (t :: f :: n :: rest)).anyEntry (s.urgentEntry t.toNat), .urgentActive),
        ((WriteArgs.read (t :: f :: n :: rest)).anyEntry (s.frozenEntry t.toNat), .frozen)] := by
  have known : noSuchTable (t :: f :: n :: rest) = false := by
    have low : ¬t.toNat < 1 := by omega
    have high : ¬9 < t.toNat := by omega
    simp [noSuchTable, byteAt, low, high]
  have whole : writeMalformed (t :: f :: n :: rest) = false := by simp [writeMalformed, byteAt, form]
  have writable : (t.toNat == 9) = false := by simp; omega
  rw [State.writeRefusal, known, whole]
  dsimp only [writeArgs_read]
  rw [writable]
  rfl

end

end Sys2Proof.Machine

namespace Sys2Proof.Safety

open Machine

/-- A taken order whose checks give a result is answered with it, and changes nothing else. -/
theorem Taken.refusedBy {s : State} {o : OrderMsg} {c : OrderMsg → Instr} {run : List Byte → Reply → State → State} (taken : Taken s o)
    (arm : exec (c o) s = .next (s.takeOrder o run)) {refusal : Option Result} {effect : State}
    (form : run o.args (replyOf o) (s.clockAt o.time) = (s.clockAt o.time).unlessRefused (replyOf o) refusal effect) {x : Result}
    (refused : refusal = some x) : exec (c o) s = .next (answered (s.clockAt o.time) o x []) :=
  taken.refused arm (form.trans (State.unlessRefused_some refused _ _))

/-! ### The checks, by their first condition that holds -/

theorem refuseLength_of_ne {args : List Byte} {n : Nat} (h : args.length ≠ n) : refuseLength args n = (true, .malformed) := by
  simp [refuseLength, h]

theorem refuseLength_of_eq {args : List Byte} {n : Nat} (h : args.length = n) : refuseLength args n = (false, .malformed) := by
  simp [refuseLength, h]

theorem refuseBusy_of_busy {s : State} (busy : s.presetBusy = true) : s.refuseBusy = (true, .presetBusy) := by
  simp [State.refuseBusy, busy]

theorem refuseBusy_of_idle {s : State} (idle : s.presetBusy = false) : s.refuseBusy = (false, .presetBusy) := by
  simp [State.refuseBusy, idle]

theorem refuseSilent_of_silent {s : State} (silent : s.preset.condition = .silent) : s.refuseSilent = (true, .noPreset) := by
  simp [State.refuseSilent, silent]

theorem refuseSilent_of_answering {s : State} (answers : s.preset.condition = .answering) : s.refuseSilent = (false, .noPreset) := by
  simp [State.refuseSilent, answers]

section

variable {s : State} {args : List Byte}

theorem noSuchTable_eq_true {t : Byte} {rest : List Byte} (none : t = 0 ∨ 9 < t.toNat) : noSuchTable (t :: rest) = true := by
  rcases none with rfl | high
  · rfl
  · simp [noSuchTable, byteAt, high]

theorem noSuchTable_eq_false (known : args = [] ∨ (1 ≤ (byteAt args 0).toNat ∧ (byteAt args 0).toNat ≤ 9)) : noSuchTable args = false := by
  rcases known with rfl | ⟨first, last⟩
  · rfl
  · cases args with
    | nil => rfl
    | cons t rest => exact noSuchTable_of_number first last

theorem readRefusal_noSuchTable {t : Byte} {rest : List Byte} (none : t = 0 ∨ 9 < t.toNat) : readRefusal (t :: rest) = some .noSuchTable := by
  rw [readRefusal, noSuchTable_eq_true none]
  rfl

theorem writeRefusal_noSuchTable {t : Byte} {rest : List Byte} (none : t = 0 ∨ 9 < t.toNat) :
    s.writeRefusal (t :: rest) = some .noSuchTable := by
  rw [State.writeRefusal, noSuchTable_eq_true none]
  rfl

theorem readRefusal_malformed (known : args = [] ∨ (1 ≤ (byteAt args 0).toNat ∧ (byteAt args 0).toNat ≤ 9)) (short : args.length ≠ 3) :
    readRefusal args = some .malformed := by
  rw [readRefusal, noSuchTable_eq_false known, refuseLength_of_ne short]
  rfl

theorem writeRefusal_malformed (known : args = [] ∨ (1 ≤ (byteAt args 0).toNat ∧ (byteAt args 0).toNat ≤ 9))
    (malformed : writeMalformed args = true) : s.writeRefusal args = some .malformed := by
  rw [State.writeRefusal, noSuchTable_eq_false known, malformed]
  rfl

theorem readRefusal_range {t f n : Byte} (first : 1 ≤ t.toNat) (last : t.toNat ≤ 9) (outside : entryCount t.toNat ≤ f.toNat ∨ n = 0) :
    readRefusal [t, f, n] = some .range := by
  have bad : (decide (entryCount t.toNat ≤ f.toNat) || n == 0) = true := by simpa using outside
  rw [readRefusal, noSuchTable_of_number first last, refuseLength_of_eq (n := 3) rfl]
  simp only [byteAt, List.getD_cons_zero, List.getD_cons_succ, bad]
  rfl

theorem eventSetRefusal_range (two : args.length = 2) (members : eventSetOk (halfAt args 0) = false) : eventSetRefusal args = some .range := by
  rw [eventSetRefusal, refuseLength_of_eq two, members]
  rfl

theorem protectRefusal_busy (two : args.length = 2) (busy : s.presetBusy = true) : s.protectRefusal args = some .presetBusy := by
  rw [State.protectRefusal, refuseLength_of_eq two, refuseBusy_of_busy busy]
  rfl

theorem protectRefusal_range (two : args.length = 2) (idle : s.presetBusy = false) (lock : s.protect.lock = false)
    (members : tableSetOk (tableSet args) = false) : s.protectRefusal args = some .range := by
  rw [protectRefusal_eq two idle, lock, members]
  rfl

theorem setLockRefusal_malformed (long : 1 < args.length) : s.setLockRefusal args = some .malformed := by
  rw [State.setLockRefusal, decide_eq_true long]
  rfl

theorem setLockRefusal_busy (short : args.length ≤ 1) (busy : s.presetBusy = true) : s.setLockRefusal args = some .presetBusy := by
  rw [State.setLockRefusal, decide_eq_false (by omega), refuseBusy_of_busy busy]
  rfl

theorem setLockRefusal_range {b : Byte} (idle : s.presetBusy = false) (notNo : b ≠ 0) (notYes : b ≠ 1) : s.setLockRefusal [b] = some .range := by
  have code : (yesNo? b).isNone = true := by simp only [yesNo?, if_neg notNo, if_neg notYes]; rfl
  rw [State.setLockRefusal, refuseBusy_of_idle idle, byteAt, List.getD_cons_zero, code]
  rfl

theorem freezeRefusal_busy (three : args.length = 3) (busy : s.presetBusy = true) : s.freezeRefusal args = some .presetBusy := by
  rw [State.freezeRefusal, refuseLength_of_eq three, refuseBusy_of_busy busy]
  rfl

theorem freezeRefusal_silent (three : args.length = 3) (idle : s.presetBusy = false) (silent : s.preset.condition = .silent) :
    s.freezeRefusal args = some .noPreset := by
  rw [State.freezeRefusal, refuseLength_of_eq three, refuseBusy_of_idle idle, refuseSilent_of_silent silent]
  rfl

theorem freezeRefusal_range {l hi lo : Byte} (idle : s.presetBusy = false) (answers : s.preset.condition = .answering) (none : 4 ≤ l.toNat) :
    s.freezeRefusal [l, hi, lo] = some .range := by
  have lane : freezeLane? [l, hi, lo] = .none := by
    rw [freezeLane?, dif_neg]
    simpa [byteAt] using none
  rw [State.freezeRefusal, refuseLength_of_eq (n := 3) rfl, refuseBusy_of_idle idle, refuseSilent_of_answering answers, lane]
  rfl

theorem freezeRefusal_mismatch {n : LaneNo} {hi lo : Byte} (idle : s.presetBusy = false) (answers : s.preset.condition = .answering)
    (other : hi ++ lo ≠ s.tables.lane[n].station) : s.freezeRefusal [byteOf n.val, hi, lo] = some .mismatch := by
  have code : (halfAt [byteOf n.val, hi, lo] 1 != s.tables.lane[n].station) = true := bne_iff_ne.2 other
  rw [State.freezeRefusal, refuseLength_of_eq (n := 3) rfl, refuseBusy_of_idle idle, refuseSilent_of_answering answers, freezeLane?_byteOf]
  dsimp only
  rw [code]
  rfl

end

/-! ### The refusals but those of a WRITE TABLE behind its three leading arguments -/

section

variable {s : State} {o : OrderMsg} (taken : Taken s o)
include taken

theorem refused_bare (given : o.args ≠ []) : ∀ c ∈ bareCommands, exec (c o) s = .next (answered (s.clockAt o.time) o .malformed []) := by
  obtain ⟨b, rest, some⟩ := List.exists_cons_of_ne_nil given
  have first (l : List (Bool × Result)) : firstRefusal (refuseArgs o.args :: l) = .some .malformed := by rw [some]; rfl
  simp only [bareCommands, List.forall_mem_cons]
  exact ⟨taken.refusedBy (run := orderPoll) rfl rfl (first _), taken.refusedBy (run := orderClearLock) rfl rfl (first _),
    taken.refusedBy (run := orderStartAir) rfl rfl (first _), taken.refusedBy (run := orderStopAir) rfl rfl (first _),
    taken.refusedBy (run := orderSavePreset) rfl rfl (first _), taken.refusedBy (run := orderLoadPreset) rfl rfl (first _),
    taken.refusedBy (run := orderReadEvents) rfl rfl (first _), taken.refusedBy (run := orderSetMarker) rfl rfl (first _),
    taken.refusedBy (run := orderRestart) rfl rfl (first _), nofun⟩

theorem refused_read {x : Result} (h : readRefusal o.args = some x) : exec (.readTable o) s = .next (answered (s.clockAt o.time) o x []) :=
  taken.refusedBy (c := .readTable) (run := orderReadTable) rfl rfl h

theorem refused_write {x : Result} (h : (s.clockAt o.time).writeRefusal o.args = some x) :
    exec (.writeTable o) s = .next (answered (s.clockAt o.time) o x []) :=
  taken.refusedBy (c := .writeTable) (run := orderWriteTable) rfl rfl h

theorem refused_protects {x : Result} (h : (s.clockAt o.time).protectRefusal o.args = some x) :
    exec (.protectTables o) s = .next (answered (s.clockAt o.time) o x []) ∧
    exec (.unprotectTables o) s = .next (answered (s.clockAt o.time) o x []) :=
  ⟨taken.refusedBy (c := .protectTables) (run := orderProtect) rfl rfl h, taken.refusedBy (c := .unprotectTables) (run := orderUnprotect) rfl rfl h⟩

theorem refused_events {x : Result} (h : eventSetRefusal o.args = some x) :
    exec (.clearEvents o) s = .next (answered (s.clockAt o.time) o x []) ∧
    exec (.setAlertMask o) s = .next (answered (s.clockAt o.time) o x []) :=
  ⟨taken.refusedBy (c := .clearEvents) (run := orderClearEvents) rfl rfl h,
    taken.refusedBy (c := .setAlertMask) (run := orderSetAlertMask) rfl rfl h⟩

theorem refused_laneOn {x : Result} (h : (s.clockAt o.time).laneOnRefusal o.args = some x) :
    exec (.laneOn o) s = .next (answered (s.clockAt o.time) o x []) :=
  taken.refusedBy (c := .laneOn) (run := orderLaneOn) rfl rfl h

theorem refused_laneOff {x : Result} (h : (s.clockAt o.time).laneOffRefusal o.args = some x) :
    exec (.laneOff o) s = .next (answered (s.clockAt o.time) o x []) :=
  taken.refusedBy (c := .laneOff) (run := orderLaneOff) rfl rfl h

theorem refused_setLock {x : Result} (h : (s.clockAt o.time).setLockRefusal o.args = some x) :
    exec (.setProtectLock o) s = .next (answered (s.clockAt o.time) o x []) :=
  taken.refusedBy (c := .setProtectLock) (run := orderSetLock) rfl rfl h

theorem refused_freeze {x : Result} (h : (s.clockAt o.time).freezeRefusal o.args = some x) :
    exec (.freezeLane o) s = .next (answered (s.clockAt o.time) o x []) :=
  taken.refusedBy (c := .freezeLane) (run := orderFreezeLane) rfl rfl h

theorem refused_save {x : Result} (h : (s.clockAt o.time).saveRefusal o.args = some x) :
    exec (.savePreset o) s = .next (answered (s.clockAt o.time) o x []) :=
  taken.refusedBy (c := .savePreset) (run := orderSavePreset) rfl rfl h

theorem refused_load {x : Result} (h : (s.clockAt o.time).loadRefusal o.args = some x) :
    exec (.loadPreset o) s = .next (answered (s.clockAt o.time) o x []) :=
  taken.refusedBy (c := .loadPreset) (run := orderLoadPreset) rfl rfl h

theorem refused_clearLock {x : Result} (h : (s.clockAt o.time).clearLockRefusal o.args = some x) :
    exec (.clearProtectLock o) s = .next (answered (s.clockAt o.time) o x []) :=
  taken.refusedBy (c := .clearProtectLock) (run := orderClearLock) rfl rfl h

end

/-! ### The refusals of a WRITE TABLE behind its three leading arguments -/

section

variable {s : State} {t f n : Byte} {rest : List Byte}

theorem writeRefusal_readOnly (form : rest.length = n.toNat * entrySize 9) : s.writeRefusal (9 :: f :: n :: rest) = some .readOnly := by
  have whole : writeMalformed ((9 : Byte) :: f :: n :: rest) = false := by simp [writeMalformed, byteAt, form]
  rw [State.writeRefusal, whole]
  rfl

theorem writeRefusal_length (first : 1 ≤ t.toNat) (last : t.toNat ≤ 9) (length : rest.length ≠ n.toNat * entrySize t.toNat) :
    s.writeRefusal (t :: f :: n :: rest) = some .malformed := by
  refine writeRefusal_malformed (.inr ⟨first, last⟩) ?_
  simp [writeMalformed, byteAt, length]

section

variable (first : 1 ≤ t.toNat) (last : t.toNat ≤ 8) (form : rest.length = n.toNat * entrySize t.toNat)
include first last form

theorem writeRefusal_busy (busy : s.presetBusy = true) : s.writeRefusal (t :: f :: n :: rest) = some .presetBusy := by
  rw [State.writeRefusal_of_form first last form, refuseBusy_of_busy busy]
  rfl

theorem writeRefusal_protected (idle : s.presetBusy = false) (flag : s.protectFlag t.toNat = true) :
    s.writeRefusal (t :: f :: n :: rest) = some .isProtected := by
  rw [State.writeRefusal_of_form first last form, refuseBusy_of_idle idle, flag]
  rfl

theorem writeRefusal_range (idle : s.presetBusy = false) (flag : s.protectFlag t.toNat = false)
    (bad : n = 0 ∨ entryCount t.toNat < f.toNat + n.toNat ∨ ∃ l ∈ cutEntries (entrySize t.toNat) n.toNat rest, entryOk t.toNat l = false) :
    s.writeRefusal (t :: f :: n :: rest) = some .range := by
  have bad' : (n.toNat == 0 || decide (entryCount t.toNat < f.toNat + n.toNat) ||
      (cutEntries (entrySize t.toNat) n.toNat rest).any (fun l => !entryOk t.toNat l)) = true := by
    rcases bad with rfl | past | ⟨l, mem, out⟩
    · rfl
    · simp [past]
    · have some : (cutEntries (entrySize t.toNat) n.toNat rest).any (fun l => !entryOk t.toNat l) = true :=
        List.any_eq_true.2 ⟨l, mem, by rw [out]; rfl⟩
      simp [some]
  rw [State.writeRefusal_of_form first last form, refuseBusy_of_idle idle, flag, bad']
  rfl

/-- Behind its form, the controller, the flag and the ranges a WRITE TABLE is checked against the air: the sync fields, the lists of a lane holding
URGENT, a frozen lane's identity. -/
theorem writeRefusal_onAirChecks (idle : s.presetBusy = false) (flag : s.protectFlag t.toNat = false) (some : n ≠ 0)
    (inside : f.toNat + n.toNat ≤ entryCount t.toNat) (entries : ∀ l ∈ cutEntries (entrySize t.toNat) n.toNat rest, entryOk t.toNat l = true) :
    s.writeRefusal (t :: f :: n :: rest) =
      firstRefusal [(s.writeOnAir (WriteArgs.read (t :: f :: n :: rest)), .onAir),
        ((WriteArgs.read (t :: f :: n :: rest)).anyEntry (s.urgentEntry t.toNat), .urgentActive),
        ((WriteArgs.read (t :: f :: n :: rest)).anyEntry (s.frozenEntry t.toNat), .frozen)] := by
  have good : (n.toNat == 0 || decide (entryCount t.toNat < f.toNat + n.toNat) ||
      (cutEntries (entrySize t.toNat) n.toNat rest).any (fun l => !entryOk t.toNat l)) = false := by
    have count : (n.toNat == 0) = false := beq_eq_false_iff_ne.2 fun zero => some (BitVec.eq_of_toNat_eq zero)
    have none : (cutEntries (entrySize t.toNat) n.toNat rest).any (fun l => !entryOk t.toNat l) = false := by
      rw [List.any_eq_false]
      intro l mem
      simp [entries l mem]
    rw [count, none, decide_eq_false (by omega)]
    rfl
  rw [State.writeRefusal_of_form first last form, refuseBusy_of_idle idle, flag, good]
  rfl

end

/-- Only a write of T8 is refused for a sync field. -/
theorem writeOnAir_of_other (other : t ≠ 8) : s.writeOnAir (WriteArgs.read (t :: f :: n :: rest)) = false := by
  have table : (t.toNat == 8) = false := beq_eq_false_iff_ne.2 fun e => other (BitVec.eq_of_toNat_eq e)
  rw [State.writeOnAir, writeArgs_read]
  dsimp only
  rw [table]
  rfl

/-- A write of the SITE entry is of its 11 bytes. -/
theorem cutEntries_site (some : n ≠ 0) (inside : f.toNat + n.toNat ≤ entryCount 8) (form : rest.length = n.toNat * entrySize 8) :
    cutEntries (entrySize 8) n.toNat rest = [rest] := by
  have one : n.toNat = 1 := by
    have pos : n.toNat ≠ 0 := fun zero => some (BitVec.eq_of_toNat_eq zero)
    have inside' : f.toNat + n.toNat ≤ 1 := inside
    omega
  have whole : rest.take (entrySize 8) = rest := List.take_of_length_le (by rw [form, one]; omega)
  rw [cutEntries, one]
  simp [whole]

theorem writeOnAir_site (running : s.timebase.mode ≠ .stopped) (entries : cutEntries (entrySize 8) n.toNat rest = [rest])
    (ok : entryOk 8 rest = true) (differs : (SiteEntry.load rest).sameSync s.tables.site = false) :
    s.writeOnAir (WriteArgs.read (8 :: f :: n :: rest)) = true := by
  obtain ⟨e, parsed⟩ := Option.isSome_iff_exists.1 (show (SiteEntry.parse rest).isSome = true from ok)
  obtain ⟨rfl, -⟩ := SiteEntry.parse_some parsed
  have table : (8 : Byte).toNat = 8 := rfl
  rw [State.writeOnAir, writeArgs_read, table, entries]
  simp [running, parsed, differs]

theorem urgentOnNat_val (s : State) (m : LaneNo) : s.urgentOnNat m.val = s.urgentOn m := dif_pos m.isLt

/-- An entry of a list is written while its lane holds URGENT. -/
theorem urgentEntry_list {i : Nat} {m : LaneNo} (list : t = 2 ∨ t = 3 ∨ t = 4) (lane : i / (entryCount t.toNat / 4) = m.val)
    (urgent : s.urgentOn m = true) (l : List Byte) : s.urgentEntry t.toNat i l = true := by
  rw [← urgentOnNat_val, ← lane] at urgent
  rcases list with rfl | rfl | rfl
  · exact urgent
  · exact urgent
  · exact urgent

/-- The LANE entry that a write gives lane `m`. -/
def writtenLane (f : Byte) (rest : List Byte) (m : LaneNo) : LaneEntry := LaneEntry.load ((rest.drop ((m.val - f.toNat) * 24)).take 24)

/-- An entry in range of a lane that holds URGENT is written with other list lengths. -/
theorem urgentEntry_lane {m : LaneNo} {l : List Byte} (ok : entryOk 1 l = true) :
    s.urgentEntry 1 m.val l = true ↔ s.urgentOn m = true ∧
      ((LaneEntry.load l).regularLen, (LaneEntry.load l).bulletinLen, (LaneEntry.load l).urgentLen) ≠
        (s.tables.lane[m].regularLen, s.tables.lane[m].bulletinLen, s.tables.lane[m].urgentLen) := by
  obtain ⟨e, parsed⟩ := Option.isSome_iff_exists.1 (show (LaneEntry.parse l).isSome = true from ok)
  obtain ⟨rfl, -⟩ := LaneEntry.parse_some parsed
  have held : s.tables.lane[m.val]? = some s.tables.lane[m] := by simp
  simp only [State.urgentEntry, parsed, held, urgentOnNat_val]
  simp [or_assoc, imp_iff_not_or]

/-- An entry in range of a frozen lane is written with another identity. -/
theorem frozenEntry_lane {m : LaneNo} {l : List Byte} {z : Frozen} (ok : entryOk 1 l = true) (frozen : s.frozen[m] = some z)
    (other : (LaneEntry.load l).station ≠ z.station ∨ (LaneEntry.load l).zone ≠ z.zone) : s.frozenEntry 1 m.val l = true := by
  obtain ⟨e, parsed⟩ := Option.isSome_iff_exists.1 (show (LaneEntry.parse l).isSome = true from ok)
  obtain ⟨rfl, -⟩ := LaneEntry.parse_some parsed
  have held : s.frozen[m.val]? = some (some z) := by
    rw [← frozen]
    simp
  simp only [State.frozenEntry, parsed, held]
  simpa using other

/-- The part of R148 that a LANE entry's write is checked by: some lane's lengths, then some lane's identity. -/
theorem writeRefusal_lane (first : f.toNat + n.toNat ≤ 4)
    (checks : s.writeRefusal (1 :: f :: n :: rest) =
      firstRefusal [(s.writeOnAir (WriteArgs.read (1 :: f :: n :: rest)), .onAir),
        ((WriteArgs.read (1 :: f :: n :: rest)).anyEntry (s.urgentEntry 1), .urgentActive),
        ((WriteArgs.read (1 :: f :: n :: rest)).anyEntry (s.frozenEntry 1), .frozen)])
    (entries : ∀ l ∈ cutEntries 24 n.toNat rest, entryOk 1 l = true) :
    ((∃ m : LaneNo, f.toNat ≤ m.val ∧ m.val < f.toNat + n.toNat ∧ s.urgentOn m = true ∧
        ((writtenLane f rest m).regularLen, (writtenLane f rest m).bulletinLen, (writtenLane f rest m).urgentLen) ≠
          (s.tables.lane[m].regularLen, s.tables.lane[m].bulletinLen, s.tables.lane[m].urgentLen)) →
      s.writeRefusal (1 :: f :: n :: rest) = some .urgentActive) ∧
    ((¬∃ m : LaneNo, f.toNat ≤ m.val ∧ m.val < f.toNat + n.toNat ∧ s.urgentOn m = true ∧
        ((writtenLane f rest m).regularLen, (writtenLane f rest m).bulletinLen, (writtenLane f rest m).urgentLen) ≠
          (s.tables.lane[m].regularLen, s.tables.lane[m].bulletinLen, s.tables.lane[m].urgentLen)) →
      ∀ (m : LaneNo) (z : Frozen), f.toNat ≤ m.val → m.val < f.toNat + n.toNat → s.frozen[m] = some z →
        (writtenLane f rest m).station ≠ z.station ∨ (writtenLane f rest m).zone ≠ z.zone →
        s.writeRefusal (1 :: f :: n :: rest) = some .frozen) := by
  have ground : s.writeOnAir (WriteArgs.read (1 :: f :: n :: rest)) = false := writeOnAir_of_other (by decide)
  have ok {k : Nat} (inside : k < n.toNat) : entryOk 1 ((rest.drop (k * 24)).take 24) = true :=
    entries _ (mem_cutEntries.2 ⟨k, inside, rfl⟩)
  have any (p : Nat → List Byte → Bool) :
      (WriteArgs.read (1 :: f :: n :: rest)).anyEntry p = true ↔ ∃ k, k < n.toNat ∧ p (f.toNat + k) ((rest.drop (k * 24)).take 24) = true :=
    anyEntry_eq_true
  refine ⟨fun ⟨m, low, high, urgent, lengths⟩ => ?_, fun calm m z low high frozen other => ?_⟩
  · have refused : (WriteArgs.read (1 :: f :: n :: rest)).anyEntry (s.urgentEntry 1) = true := by
      refine (any _).2 ⟨m.val - f.toNat, by omega, ?_⟩
      rw [Nat.add_sub_cancel' low]
      exact (urgentEntry_lane (ok (by omega))).2 ⟨urgent, lengths⟩
    rw [checks, ground, refused]
    rfl
  · have passed : (WriteArgs.read (1 :: f :: n :: rest)).anyEntry (s.urgentEntry 1) = false := by
      refine Bool.eq_false_iff.2 fun some => calm ?_
      obtain ⟨k, inside, urgent⟩ := (any _).1 some
      have four : f.toNat + k < 4 := by omega
      obtain ⟨urgent', lengths⟩ := (urgentEntry_lane (m := ⟨f.toNat + k, four⟩) (ok inside)).1 urgent
      refine ⟨⟨f.toNat + k, four⟩, Nat.le_add_right _ _, by simpa using inside, urgent', ?_⟩
      simpa [writtenLane] using lengths
    have refused : (WriteArgs.read (1 :: f :: n :: rest)).anyEntry (s.frozenEntry 1) = true := by
      refine (any _).2 ⟨m.val - f.toNat, by omega, ?_⟩
      rw [Nat.add_sub_cancel' low]
      exact frozenEntry_lane (ok (by omega)) frozen other
    rw [checks, ground, passed, refused]
    rfl

end

/-- A code that is no order's is answered NO_SUCH_ORDER. -/
theorem handOrder_unknown {s : State} {code : Nat} (unknown : code = 0 ∨ 0x13 < code) (args : List Byte) (r : Reply) :
    s.handOrder code args r = s.reply r .noSuchOrder [] := by
  have none : orderOfCode code = .none := by
    unfold orderOfCode
    split
    case h_20 => rfl
    all_goals omega
  rw [State.handOrder, none]

/-- Settles O11. -/
theorem refusalResults : Obligations.RefusalResults := by
  refine ⟨fun o s taken => ⟨fun c listed given => refused_bare taken given c listed, ?_, ?_, ?_, ?_, ?_, ?_, ?_, ?_, ?_, ?_, ?_⟩, ?_, ?_⟩
  · intro t rest args none
    exact ⟨refused_read taken (by rw [args]; exact readRefusal_noSuchTable none),
      refused_write taken (by rw [args]; exact writeRefusal_noSuchTable none)⟩
  · intro known
    refine ⟨fun length => refused_read taken (readRefusal_malformed known length),
      fun short => refused_write taken (writeRefusal_malformed known ?_)⟩
    simp [writeMalformed, short]
  · intro t f n args first last outside
    exact refused_read taken (by rw [args]; exact readRefusal_range first last outside)
  · intro length
    obtain ⟨protect, unprotect⟩ := refused_protects taken (x := .malformed) (by rw [State.protectRefusal, refuseLength_of_ne length]; rfl)
    obtain ⟨clear, mask⟩ := refused_events taken (x := .malformed) (by rw [eventSetRefusal, refuseLength_of_ne length]; rfl)
    exact ⟨protect, unprotect, clear, mask⟩
  · intro length
    exact ⟨refused_laneOn taken (by rw [State.laneOnRefusal, refuseLength_of_ne length]; rfl),
      refused_laneOff taken (by rw [State.laneOffRefusal, refuseLength_of_ne length]; rfl)⟩
  · exact fun long => refused_setLock taken (setLockRefusal_malformed long)
  · exact fun length => refused_freeze taken (by rw [State.freezeRefusal, refuseLength_of_ne length]; rfl)
  · exact fun two members => refused_events taken (eventSetRefusal_range two members)
  · intro v args members
    have outside : (!laneSetOk (byteAt [v] 0)) = true := by simpa [byteAt] using members
    exact ⟨refused_laneOn taken (by rw [args, State.laneOnRefusal, outside]; rfl),
      refused_laneOff taken (by rw [args, State.laneOffRefusal, outside]; rfl)⟩
  · intro busy
    have busy' : (s.clockAt o.time).presetBusy = true := busy
    refine ⟨fun two => refused_protects taken (protectRefusal_busy two busy'), fun short => refused_setLock taken (setLockRefusal_busy short busy'),
      fun three => refused_freeze taken (freezeRefusal_busy three busy'), fun none => ⟨refused_clearLock taken ?_, refused_save taken ?_, refused_load taken ?_⟩⟩
    · rw [none, State.clearLockRefusal, refuseBusy_of_busy busy']
      rfl
    · rw [none, State.saveRefusal, refuseBusy_of_busy busy']
      rfl
    · rw [none, State.loadRefusal, refuseBusy_of_busy busy']
      rfl
  · intro idle
    have idle' : (s.clockAt o.time).presetBusy = false := idle
    refine ⟨fun two lock members => refused_protects taken (protectRefusal_range two idle' lock members), fun b args notNo notYes => ?_,
      fun silent => ⟨fun three => refused_freeze taken (freezeRefusal_silent three idle' silent), fun none => ⟨refused_save taken ?_, refused_load taken ?_⟩⟩,
      fun l hi lo args answers => ⟨fun none => ?_, fun n lane other => ?_⟩⟩
    · exact refused_setLock taken (by rw [args]; exact setLockRefusal_range idle' notNo notYes)
    · rw [none, State.saveRefusal, refuseBusy_of_idle idle', refuseSilent_of_silent (s := s.clockAt o.time) silent]
      rfl
    · rw [none, State.loadRefusal, refuseBusy_of_idle idle', refuseSilent_of_silent (s := s.clockAt o.time) silent]
      rfl
    · exact refused_freeze taken (by rw [args]; exact freezeRefusal_range idle' answers none)
    · exact refused_freeze taken (by rw [args, lane]; exact freezeRefusal_mismatch idle' answers other)
  · intro o s t f n rest args taken
    have no {x : Result} (h : (s.clockAt o.time).writeRefusal (t :: f :: n :: rest) = some x) :
        exec (.writeTable o) s = .next (answered (s.clockAt o.time) o x []) := refused_write taken (by rw [args]; exact h)
    refine ⟨fun first last length => no (writeRefusal_length first last length), fun form => ⟨?_, fun first last =>
      ⟨fun busy => no (writeRefusal_busy first last form busy), fun idle flag => no (writeRefusal_protected first last form idle flag),
        fun idle flag => ⟨fun bad => no (writeRefusal_range first last form idle flag bad), fun some inside entries => ?_⟩⟩⟩⟩
    · rintro rfl
      exact no (writeRefusal_readOnly form)
    · have checks := writeRefusal_onAirChecks (s := s.clockAt o.time) first last form idle flag some inside entries
      refine ⟨?_, fun i m list low high lane urgent => no ?_, ?_⟩
      · rintro rfl running differs
        have one := cutEntries_site some inside form
        have ok : entryOk 8 rest = true := entries rest (one ▸ List.mem_singleton_self rest : rest ∈ cutEntries (entrySize 8) n.toNat rest)
        refine no ?_
        rw [checks, writeOnAir_site (s := s.clockAt o.time) running one ok differs]
        rfl
      · have other : t ≠ 8 := by rcases list with rfl | rfl | rfl <;> decide
        have refused : (WriteArgs.read (t :: f :: n :: rest)).anyEntry ((s.clockAt o.time).urgentEntry t.toNat) = true := by
          rw [writeArgs_read, anyEntry_eq_true]
          refine ⟨i - f.toNat, by omega, ?_⟩
          rw [Nat.add_sub_cancel' low]
          exact urgentEntry_list list lane urgent _
        rw [checks, writeOnAir_of_other other, refused]
        rfl
      · rintro rfl
        obtain ⟨urgents, frozens⟩ := writeRefusal_lane (s := s.clockAt o.time) inside checks entries
        exact ⟨fun some => no (urgents some), fun calm m z low high frozen other => no (frozens calm m z low high frozen other)⟩
  · exact fun s code args r unknown => handOrder_unknown unknown args r

end Sys2Proof.Safety
end

section
/-! PROOF. The feed monitor, the hold that follows its report, and the tables that a WRITE TABLE stores (R70, R71, R130, R132, R139 to R143, R159). -/

namespace Sys2Proof.Machine

/-! ### Latches: what an event leaves depends on the answer unit and the address alone -/

/-- Two parts with the same answer unit and address latch an event alike. -/
theorem State.latch_of_same {s t : State} (site : t.siteAddress = s.siteAddress) (unit : t.answers = s.answers) (e : Event) :
    t.latch e = t.putAnswers (s.latch e).answers := by
  have mute : t.listenOnly = s.listenOnly := by rw [State.listenOnly, State.listenOnly, site]
  have mute' (p : State) (u : AnswerUnit) : (p.putAnswers u).listenOnly = p.listenOnly := rfl
  unfold State.latch State.latched
  rw [unit]
  split
  · rw [← unit]
    rfl
  · dsimp only
    split
    · rw [State.queueAnswer_eq, State.queueAnswer_eq, mute', mute', mute]
      rfl
    · rfl

theorem State.latchAll_of_same {s t : State} (site : t.siteAddress = s.siteAddress) (unit : t.answers = s.answers) (l : List Event) :
    t.latchAll l = t.putAnswers (s.latchAll l).answers := by
  induction l generalizing s t with
  | nil =>
    show t = t.putAnswers s.answers
    rw [← unit]
    rfl
  | cons e l ih =>
    have first : t.latch e = t.putAnswers (s.latch e).answers := State.latch_of_same site unit e
    have rest := ih (s := s.latch e) (t := t.latch e) (by simp [site]) (by rw [first]; rfl)
    show (t.latch e).latchAll l = t.putAnswers ((s.latch e).latchAll l).answers
    rw [rest, first]
    rfl

/-- A latch that is set stays so as an event latches. -/
theorem State.latch_keeps {s : State} {x : Event} (set : s.latched x = true) (e : Event) : (s.latch e).latched x = true := by
  have kept (u : BitVec 13) : (s.answers.latches ||| u).getLsbD x.number = true := by
    rw [BitVec.getLsbD_or, show s.answers.latches.getLsbD x.number = true from set]
    rfl
  unfold State.latch
  split
  · exact set
  · dsimp only
    split
    · unfold State.queueAnswer AnswerUnit.join
      split
      · exact kept _
      · split
        · exact kept _
        · show ((s.answers.latches ||| e.bit) ||| Event.answerLost.bit).getLsbD x.number = true
          rw [BitVec.getLsbD_or, kept]
          rfl
    · exact kept _

theorem State.latchAll_keeps {s : State} {x : Event} (set : s.latched x = true) (l : List Event) : (s.latchAll l).latched x = true :=
  List.foldlRecOn (motive := fun t : State => t.latched x = true) l _ set fun _ h e _ => State.latch_keeps h e

theorem Event.bit_getLsbD (e : Event) : e.bit.getLsbD e.number = true := by
  cases e <;> rfl

/-- An event that falls has its latch set. -/
theorem State.latch_self (s : State) (e : Event) : (s.latch e).latched e = true := by
  have set (l : BitVec 13) : (l ||| e.bit).getLsbD e.number = true := by
    rw [BitVec.getLsbD_or, Event.bit_getLsbD, Bool.or_true]
  unfold State.latch
  split
  · assumption
  · dsimp only
    split
    · unfold State.queueAnswer AnswerUnit.join
      split
      · exact set _
      · split
        · exact set _
        · show ((s.answers.latches ||| e.bit) ||| Event.answerLost.bit).getLsbD e.number = true
          rw [BitVec.getLsbD_or, set]
          rfl
    · exact set _

theorem State.latchAll_self {s : State} {l : List Event} {e : Event} (listed : e ∈ l) : (s.latchAll l).latched e = true := by
  induction l generalizing s with
  | nil => cases listed
  | cons x l ih =>
    rcases List.mem_cons.1 listed with rfl | later
    · exact State.latchAll_keeps (State.latch_self s e) l
    · exact ih later

end Sys2Proof.Machine

namespace Sys2Proof.Safety

open Machine

/-! ### The hold as the report comes (R70, R71, R143) -/

theorem held_false (l : Lane) : held l false = l := by simp [held]

theorem heldBy_eq_held (l : Lane) (fires : Bool) : l.heldBy fires = held l fires := l.heldBy_eq fires

theorem mapLanes_heldBy_false (s : State) : s.mapLanes (Lane.heldBy false) = s := by
  have same : s.lanes.map (Lane.heldBy false) = s.lanes := by
    refine Vector.ext fun i h => ?_
    simp [Lane.heldBy]
  rw [State.mapLanes, same]
  rfl

/-- Bringing the episode into line with the report: the hold as that report comes, and the lanes as it fires. -/
theorem syncHold_reported (s : State) :
    s.syncHold = (s.putHold (reported s.hold s.holdover s.tables.site.holdLimit)).mapLanes
      (Lane.heldBy (firesAt s.hold s.holdover s.tables.site.holdLimit)) := by
  unfold State.syncHold reported firesAt
  cases report : s.holdover <;> cases episode : s.hold.episode
  · exact (mapLanes_heldBy_false s).symm
  · exact (mapLanes_heldBy_false (s.putHold Hold.none)).symm
  · rfl
  · exact (mapLanes_heldBy_false s).symm

/-- The feed state changes: the hold follows the report of the new state. -/
theorem putFeedState_reported (s : State) (x : FeedState) :
    s.putFeedState x =
      ((s.putMonitor { s.monitor with state := x }).putHold (reported s.hold (holdoverReport x s.tables.site) s.tables.site.holdLimit)).mapLanes
        (Lane.heldBy (firesAt s.hold (holdoverReport x s.tables.site) s.tables.site.holdLimit)) :=
  syncHold_reported _

theorem putFeedState_good (s : State) :
    s.putFeedState .good = (s.putMonitor { s.monitor with state := .good }).putHold (reported s.hold false s.tables.site.holdLimit) :=
  (putFeedState_reported s .good).trans (mapLanes_heldBy_false _)

/-- A part whose monitor, hold and lanes have changed as a report came, with events. -/
def changedBy (s : State) (m : Monitor) (h : Hold) (fires : Bool) (events : List Event) : State :=
  (((s.putMonitor m).putHold h).mapLanes (Lane.heldBy fires)).latchAll events

theorem changedBy_put (s : State) (m : Monitor) (h : Hold) (fires : Bool) (events : List Event) :
    changedBy s m h fires events = (((s.putMonitor m).putHold h).mapLanes (Lane.heldBy fires)).putAnswers (s.latchAll events).answers :=
  State.latchAll_of_same (s := s) (t := ((s.putMonitor m).putHold h).mapLanes (Lane.heldBy fires)) rfl rfl events

theorem changedBy_monitorField (s : State) (m : Monitor) (h : Hold) (fires : Bool) (events : List Event) :
    (changedBy s m h fires events).monitor = m := by
  rw [changedBy_put]
  rfl

theorem changedBy_hold (s : State) (m : Monitor) (h : Hold) (fires : Bool) (events : List Event) :
    (changedBy s m h fires events).hold = h := by
  rw [changedBy_put]
  rfl

theorem changedBy_tables (s : State) (m : Monitor) (h : Hold) (fires : Bool) (events : List Event) :
    (changedBy s m h fires events).tables = s.tables := by
  rw [changedBy_put]
  rfl

theorem changedBy_lane (s : State) (m : Monitor) (h : Hold) (fires : Bool) (events : List Event) (n : LaneNo) :
    (changedBy s m h fires events).lanes[n] = held s.lanes[n] fires := by
  rw [← heldBy_eq_held, changedBy_put]
  exact State.mapLanes_lane _ _ n

theorem changedBy_latched (s : State) (m : Monitor) (h : Hold) (fires : Bool) {events : List Event} {e : Event} (listed : e ∈ events) :
    (changedBy s m h fires events).latched e = true := State.latchAll_self listed

/-! ### The quality window (R140) -/

/-- An outcome recorded in a window that counts its bad ones. -/
theorem record_eq {m : Monitor} (length : m.window.length ≤ 50) (count : m.bad = m.window.count true) (bad : Bool) :
    m.record bad = { m with
      window := m.window.drop (m.window.length - 49) ++ [bad], bad := (m.window.drop (m.window.length - 49) ++ [bad]).count true } := by
  obtain ⟨state, window, n, lostAt⟩ := m
  dsimp only at length count
  subst count
  unfold Monitor.record Monitor.makeRoom
  dsimp only
  split
  · next room =>
    have all : window.length - 49 = 0 := by omega
    rw [all, List.drop_zero]
    cases bad <;> simp
  · next full =>
    have one : window.length - 49 = 1 := by omega
    rw [one]
    cases window with
    | nil => simp at full
    | cons oldest rest => cases oldest <;> cases bad <;> simp

theorem clearWindow_record (m : Monitor) (bad : Bool) :
    m.clearWindow.record bad = { m with window := [bad], bad := [bad].count true } := by
  cases bad <;> rfl

/-! ### An outcome in the feed monitor (R139) -/

theorem highCheck_changed (s : State) :
    s.highCheck =
      if s.tables.site.highThreshold ≤ s.monitor.bad then
        changedBy s { s.monitor with state := .degraded } (reported s.hold s.tables.site.holdoverOnDegraded s.tables.site.holdLimit)
          (firesAt s.hold s.tables.site.holdoverOnDegraded s.tables.site.holdLimit) [.feedDegraded]
      else s := by
  unfold State.highCheck
  split
  · rw [putFeedState_reported]
    rfl
  · rfl

/-- Of an outcome in GOOD the high threshold is asked. -/
theorem recordOutcome_good {s : State} (good : s.monitor.state = .good) (complete bad : Bool) :
    s.recordOutcome complete bad = (s.putMonitor (s.monitor.record bad)).highCheck := by
  rw [State.recordOutcome, good]

/-- Of an outcome in DEGRADED the low threshold is asked. -/
theorem recordOutcome_degraded {s : State} (degraded : s.monitor.state = .degraded) (complete bad : Bool) :
    s.recordOutcome complete bad =
      if (s.monitor.record bad).bad ≤ s.tables.site.lowThreshold then
        changedBy s { s.monitor.record bad with state := .good } (reported s.hold false s.tables.site.holdLimit) false [.feedRestored]
      else s.putMonitor (s.monitor.record bad) := by
  rw [State.recordOutcome, degraded]
  dsimp only
  unfold State.lowCheck
  split
  · next low =>
    rw [putFeedState_good, changedBy, mapLanes_heldBy_false]
    exact (if_pos low).symm
  · next high => exact (if_neg high).symm

/-- An outcome that is not of a complete frame leaves ABSENT and LOST. -/
theorem recordOutcome_out {s : State} (out : s.monitor.state = .absent ∨ s.monitor.state = .lost) (bad : Bool) :
    s.recordOutcome false bad = s.putMonitor (s.monitor.record bad) := by
  rcases out with e | e
  · rw [State.recordOutcome, e]
    rfl
  · rw [State.recordOutcome, e]
    rfl

/-- A complete frame takes ABSENT and LOST to GOOD, where the high threshold is asked. -/
theorem recordOutcome_back {s : State} (out : s.monitor.state = .absent ∨ s.monitor.state = .lost) (bad : Bool) :
    s.recordOutcome true bad =
      (changedBy s { s.monitor with state := .good, window := [bad], bad := [bad].count true } (reported s.hold false s.tables.site.holdLimit) false
        (if s.monitor.state = .lost then [.feedRestored] else [])).highCheck := by
  rw [changedBy, mapLanes_heldBy_false]
  rcases out with e | e
  · rw [State.recordOutcome, e]
    dsimp only
    rw [if_pos rfl, if_neg (by decide), putFeedState_good, clearWindow_record]
    rfl
  · rw [State.recordOutcome, e]
    dsimp only
    rw [if_pos rfl, if_pos rfl, putFeedState_good, clearWindow_record]
    rfl

/-- A part whose monitor alone has changed. -/
theorem changedBy_monitor (s : State) (m : Monitor) : changedBy s m s.hold false [] = s.putMonitor m := by
  rw [changedBy, mapLanes_heldBy_false]
  rfl

theorem changedBy_changedBy (s : State) (m m' : Monitor) (h h' : Hold) (fires : Bool) (events events' : List Event) :
    changedBy (changedBy s m h false events) m' h' fires events' = changedBy s m' h' fires (events ++ events') := by
  have latches : ((changedBy s m h false events).latchAll events').answers = (s.latchAll (events ++ events')).answers := by
    have both : (changedBy s m h false events).latchAll events' =
        (((s.putMonitor m).putHold h).mapLanes (Lane.heldBy false)).latchAll (events ++ events') := (List.foldl_append ..).symm
    rw [both, State.latchAll_of_same (s := s) (t := ((s.putMonitor m).putHold h).mapLanes (Lane.heldBy false)) rfl rfl]
    rfl
  rw [changedBy_put, latches, changedBy_put s m h, mapLanes_heldBy_false, changedBy_put]
  rfl

/-- A part after an outcome that leaves the window `w`, where the feed comes back, degrades or recovers with it. -/
def afterOutcome (s : State) (w : List Bool) (back degrades recovers : Prop) [Decidable back] [Decidable degrades] [Decidable recovers] : State :=
  let kept := if back ∨ recovers then reported s.hold false s.tables.site.holdLimit else s.hold
  changedBy s
    { state := if degrades then .degraded else if back ∨ recovers then .good else s.monitor.state
      window := w, bad := w.count true, lostAt := s.monitor.lostAt }
    (if degrades then reported kept s.tables.site.holdoverOnDegraded s.tables.site.holdLimit else kept)
    (if degrades then firesAt kept s.tables.site.holdoverOnDegraded s.tables.site.holdLimit else false)
    ((if recovers ∨ (back ∧ s.monitor.state = .lost) then [Event.feedRestored] else []) ++ (if degrades then [Event.feedDegraded] else []))

section

variable {s : State} (length : s.monitor.window.length ≤ 50) (count : s.monitor.bad = s.monitor.window.count true) (complete bad : Bool)

/-- The window with an outcome recorded in it. -/
def recorded (s : State) (bad : Bool) : List Bool := s.monitor.window.drop (s.monitor.window.length - 49) ++ [bad]

include length count in
theorem good_afterOutcome (good : s.monitor.state = .good) :
    s.recordOutcome complete bad =
      afterOutcome s (recorded s bad) False (s.tables.site.highThreshold ≤ (recorded s bad).count true) False := by
  rw [recordOutcome_good good, highCheck_changed, record_eq length count]
  by_cases high : s.tables.site.highThreshold ≤ (recorded s bad).count true
  · simp only [afterOutcome, high, if_true, or_self, if_false, false_and, List.nil_append]
    exact if_pos high
  · simp only [afterOutcome, high, or_self, if_false, false_and, List.append_nil, changedBy_monitor]
    exact if_neg high

include length count in
theorem degraded_afterOutcome (degraded : s.monitor.state = .degraded) :
    s.recordOutcome complete bad =
      afterOutcome s (recorded s bad) False False ((recorded s bad).count true ≤ s.tables.site.lowThreshold) := by
  rw [recordOutcome_degraded degraded, record_eq length count]
  by_cases low : (recorded s bad).count true ≤ s.tables.site.lowThreshold
  · simp only [afterOutcome, low, if_true, or_true, true_or, if_false, List.append_nil]
    exact if_pos low
  · simp only [afterOutcome, low, or_self, if_false, false_and, List.append_nil, changedBy_monitor]
    exact if_neg low

include length count in
theorem out_afterOutcome (out : s.monitor.state = .absent ∨ s.monitor.state = .lost) :
    s.recordOutcome false bad = afterOutcome s (recorded s bad) False False False := by
  rw [recordOutcome_out out, record_eq length count]
  simp only [afterOutcome, or_self, if_false, false_and, List.append_nil, changedBy_monitor]
  rfl

theorem back_afterOutcome (out : s.monitor.state = .absent ∨ s.monitor.state = .lost) :
    s.recordOutcome true bad = afterOutcome s [bad] True (s.tables.site.highThreshold ≤ [bad].count true) False := by
  rw [recordOutcome_back out, highCheck_changed, changedBy_changedBy]
  simp only [changedBy_monitorField, changedBy_hold, changedBy_tables]
  by_cases high : s.tables.site.highThreshold ≤ [bad].count true
  · simp only [afterOutcome, high, if_true, true_or, true_and, false_or]
  · simp only [afterOutcome, high, if_true, true_or, true_and, false_or, if_false, List.append_nil]

end

theorem afterOutcome_congr {s : State} {w : List Bool} {b d r b' d' r' : Prop} [Decidable b] [Decidable d] [Decidable r] [Decidable b'] [Decidable d']
    [Decidable r'] (back : b ↔ b') (degrades : d ↔ d') (recovers : r ↔ r') : afterOutcome s w b d r = afterOutcome s w b' d' r' := by
  simp only [afterOutcome, back, degrades, recovers]

/-- Settles O29. -/
theorem outcomeRules : Obligations.OutcomeRules := by
  intro s complete bad ⟨length, count⟩ t site back w degrades recovers events kept
  have form : t = afterOutcome s w back degrades recovers := by
    have noBack (h : ¬back) : w = recorded s bad := if_neg h
    obtain e | e | e : s.monitor.state = .good ∨ s.monitor.state = .degraded ∨ (s.monitor.state = .absent ∨ s.monitor.state = .lost) := by
      cases s.monitor.state <;> simp
    · have stays : ¬back := by simp [back, e]
      have window := noBack stays
      rw [show t = _ from good_afterOutcome length count complete bad e, ← window]
      exact afterOutcome_congr (by simp [stays]) (by simp [degrades, e, site]) (by simp [recovers, e])
    · have stays : ¬back := by simp [back, e]
      have window := noBack stays
      rw [show t = _ from degraded_afterOutcome length count complete bad e, ← window]
      exact afterOutcome_congr (by simp [stays]) (by simp [degrades, e, stays]) (by simp [recovers, e, site])
    · have noRecovery : ¬recovers := by
        rcases e with e | e <;> simp [recovers, e]
      have notGood : s.monitor.state ≠ .good := by
        rcases e with e | e <;> simp [e]
      cases complete with
      | false =>
        have stays : ¬back := fun h => Bool.noConfusion h.1
        have window := noBack stays
        rw [show t = _ from out_afterOutcome length count bad e, ← window]
        exact afterOutcome_congr (by simp [stays]) (by simp [degrades, notGood, stays]) (by simp [noRecovery])
      | true =>
        have returns : back := ⟨rfl, e⟩
        have window : w = [bad] := if_pos returns
        rw [show t = _ from back_afterOutcome bad e, ← window]
        exact afterOutcome_congr (by simp [returns]) (by simp [degrades, returns, site]) (by simp [noRecovery])
  refine ⟨?_, fun n => ?_, fun e listed => ?_⟩
  · rw [form, afterOutcome, changedBy_put]
    rfl
  · rw [form, afterOutcome, changedBy_lane]
    split
    · rfl
    · exact held_false _
  · rw [form]
    exact changedBy_latched _ _ _ _ listed

end Sys2Proof.Safety
end

section
/-! PROOF. The feed port's events (R130, R132, R141), the SYNC line (R119, R122, R123), and WRITE TABLE (R159). -/

namespace Sys2Proof.Safety

open Machine

/-! ### The feed monitor beside the feed port and the LOST timer -/

/-- The part with another feed port and another LOST timer. -/
def besides (f : FeedPort) (d : Option Micros) (s : State) : State := (s.putFeed f).putMonitor { s.monitor with lostAt := d }

section

variable (f : FeedPort) (d : Option Micros) (s : State)

theorem besides_latch (e : Event) : (besides f d s).latch e = besides f d (s.latch e) := by
  have both : (besides f d s).latch e = (besides f d s).putAnswers (s.latch e).answers :=
    State.latch_of_same (s := s) (t := besides f d s) rfl rfl e
  obtain ⟨u, one⟩ := State.latch_eq s e
  rw [both, one]
  rfl

theorem besides_record (bad : Bool) :
    (besides f d s).putMonitor ((besides f d s).monitor.record bad) = besides f d (s.putMonitor (s.monitor.record bad)) := by
  have same : Monitor.record { s.monitor with lostAt := d } bad = { s.monitor.record bad with lostAt := d } := by
    unfold Monitor.record Monitor.makeRoom
    dsimp only
    split <;> rfl
  show ((s.putFeed f).putMonitor _).putMonitor (Monitor.record { s.monitor with lostAt := d } bad) = _
  rw [same]
  rfl

theorem besides_putFeedState (x : FeedState) : (besides f d s).putFeedState x = besides f d (s.putFeedState x) := by
  rw [putFeedState_reported, putFeedState_reported]
  rfl

theorem besides_highCheck : (besides f d s).highCheck = besides f d s.highCheck := by
  unfold State.highCheck
  rw [besides_putFeedState, besides_latch, apply_ite (besides f d)]
  rfl

theorem besides_lowCheck : (besides f d s).lowCheck = besides f d s.lowCheck := by
  unfold State.lowCheck
  rw [besides_putFeedState, besides_latch, apply_ite (besides f d)]
  rfl

/-- The feed monitor records an outcome whatever the feed port and the LOST timer are. -/
theorem besides_recordOutcome (complete bad : Bool) :
    (besides f d s).recordOutcome complete bad = besides f d (s.recordOutcome complete bad) := by
  have state : (besides f d s).monitor.state = s.monitor.state := rfl
  have cleared : (besides f d s).putMonitor ((besides f d s).monitor.clearWindow.record bad) =
      besides f d (s.putMonitor (s.monitor.clearWindow.record bad)) := rfl
  unfold State.recordOutcome
  rw [state]
  cases s.monitor.state <;> cases complete <;> dsimp only <;>
    simp only [besides_record, besides_highCheck, besides_lowCheck, besides_putFeedState, besides_latch, cleared, if_true, if_false,
      Bool.false_eq_true]

theorem besides_feedLost : (besides f d s).feedLost = besides f d s.feedLost := by
  have state : (besides f d s).monitor.state = s.monitor.state := rfl
  unfold State.feedLost
  rw [state]
  cases s.monitor.state <;> dsimp only
  · rw [besides_putFeedState, besides_latch]
  · rw [besides_putFeedState, besides_latch]

end

/-- What a frame in progress leaves as it ends without completing. -/
def droppedOutcome (s : State) : State := if s.feed.inProgress.isSome = true then s.recordOutcome false true else s

/-- A frame in progress is dropped with its bad outcome. -/
theorem dropFrame_eq (s : State) :
    s.dropFrame = besides { s.feed with inProgress := none } s.monitor.lostAt (droppedOutcome s) := by
  have none : { s.feed with inProgress := .none } = s.feed ∨ s.feed.inProgress.isSome = true := by
    obtain ⟨progress, forwards, sending⟩ := s.feed
    cases progress
    · exact .inl rfl
    · exact .inr rfl
  unfold State.dropFrame droppedOutcome
  split
  · exact besides_recordOutcome { s.feed with inProgress := .none } s.monitor.lostAt s false true
  · next idle =>
    rw [besides, none.resolve_right idle]
    rfl

/-- An outcome changes the feed state, the window and its count, the hold, the lanes and the answer unit alone. -/
def OutcomeOf (s t : State) : Prop :=
  ∃ m h v u, t = (((s.putMonitor m).putHold h).putLanes v).putAnswers u ∧ m.lostAt = s.monitor.lostAt

theorem OutcomeOf.record {s t : State} (h : OutcomeOf s t) (m : Monitor) (bad : Bool) (same : m.lostAt = t.monitor.lostAt) :
    OutcomeOf s (t.putMonitor (m.record bad)) := by
  obtain ⟨m', d, v, u, rfl, kept⟩ := h
  refine ⟨m.record bad, d, v, u, rfl, ?_⟩
  have recorded : (m.record bad).lostAt = m.lostAt := by
    unfold Monitor.record Monitor.makeRoom
    split <;> rfl
  rw [recorded, same]
  exact kept

theorem OutcomeOf.putFeedState {s t : State} (h : OutcomeOf s t) (x : FeedState) : OutcomeOf s (t.putFeedState x) := by
  obtain ⟨m, d, v, u, rfl, kept⟩ := h
  rw [putFeedState_reported]
  exact ⟨{ m with state := x }, reported d (holdoverReport x s.tables.site) s.tables.site.holdLimit,
    v.map (Lane.heldBy (firesAt d (holdoverReport x s.tables.site) s.tables.site.holdLimit)), u, rfl, kept⟩

theorem OutcomeOf.latch {s t : State} (h : OutcomeOf s t) (e : Event) : OutcomeOf s (t.latch e) := by
  obtain ⟨m, d, v, u, rfl, kept⟩ := h
  obtain ⟨u', latched⟩ := State.latch_eq ((((s.putMonitor m).putHold d).putLanes v).putAnswers u) e
  exact ⟨m, d, v, u', latched, kept⟩

theorem OutcomeOf.self (s : State) : OutcomeOf s s := ⟨s.monitor, s.hold, s.lanes, s.answers, rfl, rfl⟩

theorem OutcomeOf.recordOutcome (s : State) (complete bad : Bool) : OutcomeOf s (s.recordOutcome complete bad) :=
  recordOutcome_keeps (P := OutcomeOf s) (fun bad h => h.record _ bad rfl) (fun bad h => h.record _ bad rfl) (fun x h => h.putFeedState x)
    (fun e h => h.latch e) complete bad (OutcomeOf.self s)

theorem OutcomeOf.droppedOutcome (s : State) : OutcomeOf s (droppedOutcome s) := by
  unfold Safety.droppedOutcome
  split
  · exact OutcomeOf.recordOutcome s false true
  · exact OutcomeOf.self s

theorem besides_timer (f : FeedPort) (d e : Option Micros) (s : State) :
    (besides f d s).putMonitor { (besides f d s).monitor with lostAt := e } = besides f e s := rfl

theorem besides_port (f g : FeedPort) (d : Option Micros) (s : State) : (besides f d s).putFeed g = besides g d s := rfl

theorem OutcomeOf.clock {s t : State} (h : OutcomeOf s t) : t.clock = s.clock := by
  obtain ⟨m, d, v, u, rfl, -⟩ := h
  rfl

theorem patternSeen_eq (s : State) :
    s.patternSeen = besides { s.feed with inProgress := some s.clock } (some (s.clock + 100000)) (droppedOutcome s) := by
  have dropped : s.dropFrame = besides { s.feed with inProgress := none } s.monitor.lostAt (droppedOutcome s) := dropFrame_eq s
  have timer : micros Config.lostMicros = 100000 := by decide
  have clock : (besides { s.feed with inProgress := none } s.monitor.lostAt (droppedOutcome s)).clock = s.clock :=
    (OutcomeOf.droppedOutcome s).clock
  have restarted : s.dropFrame.restartLostTimer =
      besides { s.feed with inProgress := none } (some (s.clock + 100000)) (droppedOutcome s) := by
    rw [State.restartLostTimer, dropped, clock, timer, besides_timer]
  have clock' : s.dropFrame.restartLostTimer.clock = s.clock := by
    rw [restarted]
    exact clock
  rw [State.patternSeen, clock', restarted]
  exact besides_port ..

theorem OutcomeOf.tables {s t : State} (h : OutcomeOf s t) : t.tables = s.tables := by
  obtain ⟨m, d, v, u, rfl, -⟩ := h
  rfl

/-! ### The LOST timer (R141) -/

theorem besides_dropped {f : FeedPort} (d : Option Micros) {s : State} (same : f.inProgress = s.feed.inProgress) :
    droppedOutcome (besides f d s) = besides f d (droppedOutcome s) := by
  have progress : (besides f d s).feed.inProgress = s.feed.inProgress := same
  unfold droppedOutcome
  rw [progress, besides_recordOutcome, apply_ite (besides f d)]

/-- An expiry finds the outcome of a frame in progress as it would without the timer, and then the feed lost. -/
theorem lostTimerExpiry_eq {s : State} {d : Micros} (timer : s.monitor.lostAt = some d) :
    s.lostTimerExpiry = besides { (s.clockTo d).feed with inProgress := none } none (droppedOutcome (s.clockTo d)).feedLost := by
  have stopped : ((s.clockTo d).putMonitor { (s.clockTo d).monitor with lostAt := none }).dropFrame =
      besides { (s.clockTo d).feed with inProgress := none } none (droppedOutcome (s.clockTo d)) := by
    have bare : (s.clockTo d).putMonitor { (s.clockTo d).monitor with lostAt := none } = besides (s.clockTo d).feed none (s.clockTo d) := rfl
    rw [bare, dropFrame_eq, besides_dropped none rfl]
    rfl
  rw [State.lostTimerExpiry, timer]
  dsimp only
  rw [stopped, besides_feedLost]

/-- In ABSENT and LOST the feed is lost no more, and a frame that ends incomplete joins the window alone. -/
theorem droppedOutcome_out {s : State} (out : s.monitor.state = .absent ∨ s.monitor.state = .lost) :
    droppedOutcome s = s.putMonitor (droppedOutcome s).monitor ∧ (droppedOutcome s).monitor.state = s.monitor.state := by
  unfold droppedOutcome
  split
  · rw [recordOutcome_out out]
    exact ⟨rfl, Monitor.record_state _ _⟩
  · exact ⟨rfl, rfl⟩

theorem feedLost_out {s : State} (out : s.monitor.state = .absent ∨ s.monitor.state = .lost) : s.feedLost = s := by
  rcases out with e | e
  · rw [State.feedLost, e]
  · rw [State.feedLost, e]

/-- In GOOD and DEGRADED a frame that ends incomplete leaves the feed in one of them. -/
theorem droppedOutcome_up {s : State} (up : s.monitor.state = .good ∨ s.monitor.state = .degraded) :
    (droppedOutcome s).monitor.state = .good ∨ (droppedOutcome s).monitor.state = .degraded := by
  unfold droppedOutcome
  split
  · rcases up with e | e
    · rw [recordOutcome_good e, highCheck_changed]
      split
      · rw [changedBy_monitorField]
        exact .inr rfl
      · exact .inl ((Monitor.record_state _ _).trans e)
    · rw [recordOutcome_degraded e]
      split
      · rw [changedBy_monitorField]
        exact .inl rfl
      · exact .inr ((Monitor.record_state _ _).trans e)
  · exact up

theorem feedLost_up {s : State} (up : s.monitor.state = .good ∨ s.monitor.state = .degraded) :
    s.feedLost = changedBy s { s.monitor with state := .lost } (reported s.hold true s.tables.site.holdLimit)
      (firesAt s.hold true s.tables.site.holdLimit) [.feedLost] := by
  have lost : (s.putFeedState .lost).latch .feedLost = changedBy s { s.monitor with state := .lost }
      (reported s.hold true s.tables.site.holdLimit) (firesAt s.hold true s.tables.site.holdLimit) [.feedLost] := by
    rw [putFeedState_reported]
    rfl
  rcases up with e | e
  · rw [State.feedLost, e]
    exact lost
  · rw [State.feedLost, e]
    exact lost

theorem besides_changedBy (f : FeedPort) (d : Option Micros) (s : State) (m : Monitor) (h : Hold) (fires : Bool) (events : List Event) :
    besides f d (changedBy s m h fires events) =
      { s with
        feed := f, monitor := { m with lostAt := d }, hold := h, lanes := (changedBy s m h fires events).lanes
        answers := (s.latchAll events).answers } := by
  rw [changedBy_put]
  rfl

/-! ### FEED OUT and AUDIO OUT (R132) -/

theorem sending_filter {f : Forward} (p : Forward → Bool) : (some f).filter p = if p f = true then some f else none := by
  simp [Option.filter]

/-- A frame stays on FEED OUT while its bytes have not all gone. -/
theorem sentBy_sending {p : FeedPort} {f : Forward} (sending : p.sending = some f) (clock : Micros) (more : Nat) :
    (p.sentBy clock more).sending = if 551 * (f.span : Int) ≤ 548 * (sdiff clock f.start + more) then none else some f := by
  unfold FeedPort.sentBy
  rw [sending]
  by_cases gone : 551 * (f.span : Int) ≤ 548 * (sdiff clock f.start + more)
  · simp [Option.filter, Forward.over, gone]
  · simp [Option.filter, Forward.over, gone]

theorem sentBy_idle {p : FeedPort} (idle : p.sending = none) (clock : Micros) (more : Nat) : (p.sentBy clock more).sending = none := by
  unfold FeedPort.sentBy
  rw [idle]
  rfl

/-- What has passed since a frame's beginning, counted by the part's clock, is no less than the clock shows. -/
theorem sdiff_le_elapsed (clock t start : Micros) : sdiff t start ≤ sdiff clock start + (t - clock).toNat := by
  rw [sdiff_eq_wrapped, sdiff_eq_wrapped, BitVec.toNat_sub]
  have small (x : Micros) : x.toNat < 4294967296 := x.isLt
  have := small clock
  have := small t
  have := small start
  norm_num
  omega

/-- LOST_TIMER_EXPIRY, where `now` is the part at the expiry and `r` what a frame in progress leaves there. -/
theorem lostTimer_result {s : State} {d : Micros} (timer : s.monitor.lostAt = some d) {now r : State} (at' : now = s.clockTo d)
    (outcome : r = droppedOutcome now) :
    ∃ u, exec .lostTimerExpiry s = .next u ∧
      (s.monitor.state = .absent ∨ s.monitor.state = .lost →
        u = { now with feed := { now.feed with inProgress := none }, monitor := { r.monitor with lostAt := none } } ∧
        u.monitor.state = s.monitor.state) ∧
      (s.monitor.state = .good ∨ s.monitor.state = .degraded →
        u = { r with
          feed := { now.feed with inProgress := none }, monitor := { r.monitor with state := .lost, lostAt := none }
          hold := reported r.hold true s.tables.site.holdLimit, lanes := u.lanes, answers := (r.latch .feedLost).answers } ∧
        (∀ n : LaneNo, u.lanes[n] = held r.lanes[n] (firesAt r.hold true s.tables.site.holdLimit)) ∧
        u.latched .feedLost = true) ∧
      (HoldOk s → HoldOk u) := by
  have state : now.monitor.state = s.monitor.state := by simp [at']
  have limit : r.tables.site.holdLimit = s.tables.site.holdLimit := by
    rw [outcome, (OutcomeOf.droppedOutcome now).tables]
    simp [at']
  have expired : s.lostTimerExpiry = besides { now.feed with inProgress := none } none r.feedLost := by
    rw [outcome, at']
    exact lostTimerExpiry_eq timer
  refine ⟨s.lostTimerExpiry, rfl, fun out => ?_, fun up => ?_, HoldOk.shared.lostTimerExpiry⟩
  · rw [← state] at out
    obtain ⟨alone, same⟩ := droppedOutcome_out out
    rw [← outcome] at alone same
    have out' : r.monitor.state = .absent ∨ r.monitor.state = .lost := by rw [same]; exact out
    rw [feedLost_out out'] at expired
    refine ⟨?_, ?_⟩
    · rw [expired, alone]
      rfl
    · rw [expired]
      exact same.trans state
  · rw [← state] at up
    have up' : r.monitor.state = .good ∨ r.monitor.state = .degraded := by rw [outcome]; exact droppedOutcome_up up
    rw [feedLost_up up', limit] at expired
    refine ⟨?_, fun n => ?_, ?_⟩
    · rw [expired, besides_changedBy]
      rfl
    · rw [expired]
      exact changedBy_lane ..
    · rw [expired]
      exact changedBy_latched (e := .feedLost) _ _ _ _ (List.mem_singleton_self _)

/-- Settles O30. -/
theorem feedEventResults : Obligations.FeedEventResults := by
  refine ⟨?_, ?_, ?_, ?_, ?_⟩
  · intro t s now r
    have seen : now.patternSeen = besides { now.feed with inProgress := some now.clock } (some (now.clock + 100000)) r := patternSeen_eq now
    show Host.Outcome.next now.patternSeen = _
    rw [seen]
    rfl
  · intro s d timer now r
    refine lostTimer_result timer rfl ?_
    show (if s.feed.inProgress.isSome = true then _ else _) = _
    rw [← State.clockTo_inProgress s d]
    rfl
  · intro s f rest waiting
    show Host.Outcome.next s.frameForward = _
    rw [State.frameForward, waiting]
  · intro s f sending gone
    have now : (s.feed.sentBy s.clock 0).sending = if 551 * (f.span : Int) ≤ gone then none else some f := by
      simpa using sentBy_sending sending s.clock 0
    refine ⟨fun on => ?_, fun off => ?_, fun t => sentBy_sending sending s.clock _, fun t reached sent => ?_⟩
    · rw [if_neg (by omega)] at now
      simp [State.feedOut, State.audioOut, State.feedOutByte, now, gone]
    · rw [if_pos off] at now
      simp [State.feedOut, State.audioOut, State.feedOutByte, now]
    · have at' : s.clockTo t = s.clockAt t := if_pos reached
      have elapsed := sdiff_le_elapsed s.clock t f.start
      rw [at', State.clockAt]
      exact (sentBy_sending sending s.clock _).trans (if_pos (by omega))
  · intro s idle
    have now := sentBy_idle idle s.clock 0
    simp [State.feedOut, State.audioOut, State.feedOutByte, now]

/-! ### The SYNC line (R119, R122, R123) -/

theorem micros_period (e : SiteEntry) : micros e.period = BitVec.ofNat 32 (e.divisor * 640000) := by
  have whole : e.period = ((e.divisor * 640000 : Nat) : Int) := by simp [SiteEntry.period, Config.cycleMicros]
  rw [whole, micros, BitVec.ofInt_natCast]

theorem watchesSync_eq {s : State} (role : s.tables.site.role = .follower) (still : s.timebase.stopPending = false) : s.watchesSync = true := by
  simp [State.watchesSync, role, still]

/-- A window that closes with no pulse, at a FOLLOWER with no stop pending. -/
theorem syncPulseMissed_eq {s : State} {e : Micros} (role : s.tables.site.role = .follower) (still : s.timebase.stopPending = false)
    (unmet : s.nextUnmet = some e) :
    (s.timebase.mode = .running → s.syncPulseMissed = (s.clockTo (e + 1251)).putTimebase { s.timebase with
      expected := some (e + BitVec.ofNat 32 (s.tables.site.divisor * 640000)), met := false
      misses := if s.timebase.misses < 3 then s.timebase.misses + 1 else 3 }) ∧
    (s.timebase.mode = .holdover → s.syncPulseMissed = (s.clockTo (e + 1251)).putTimebase { s.timebase with
      expected := some (e + BitVec.ofNat 32 (s.tables.site.divisor * 640000)), met := false }) ∧
    (s.timebase.mode = .priming → s.syncPulseMissed = (s.clockTo (e + 1251)).putTimebase { s.timebase with expected := none, met := false }) := by
  have window : micros (Config.windowMicros + 1) = 1251 := by decide
  have same : (s.clockTo (e + 1251)).timebase = s.timebase := State.clockTo_timebase ..
  unfold State.syncPulseMissed
  rw [if_pos (watchesSync_eq role still), unmet]
  dsimp only
  rw [window, same, State.clockTo_tables, micros_period]
  refine ⟨fun mode => ?_, fun mode => ?_, fun mode => ?_⟩
  · rw [mode]
  · rw [mode]
  · rw [mode]

/-- Settles O53. -/
theorem syncLineResults : Obligations.SyncLineResults := by
  refine ⟨?_, fun s role still running third => ?_, fun s d pulse => ?_, fun s d low => ?_, fun s high => ?_⟩
  · intro s e role still unmet late next
    obtain ⟨running, holdover, priming⟩ := syncPulseMissed_eq role still unmet
    refine ⟨fun mode few => ?_, fun mode => congrArg _ (holdover mode), fun mode => congrArg _ (priming mode)⟩
    have counted : (if s.timebase.misses < 3 then s.timebase.misses + 1 else 3) = min 3 (s.timebase.misses + 1) := by
      split <;> omega
    rw [counted] at running
    exact congrArg _ (running mode)
  · have lost : s.syncLost = (s.putTimebase { s.timebase with mode := .holdover }).latch .syncLost := by
      have due : (s.watchesSync && s.timebase.mode == .running && decide (3 ≤ s.timebase.misses)) = true := by
        simp [watchesSync_eq role still, running, third]
      rw [State.syncLost, if_pos due]
    refine ⟨s.syncLost, rfl, ?_, ?_, ?_⟩
    · rw [lost, State.latch_timebase]
      rfl
    · rw [lost]
      exact State.latch_self _ _
    · rw [lost, State.latch_lanes]
      rfl
  · have bit : micros Config.bitMicros = 625 := by decide
    refine ⟨s.masterPulseStart, rfl, ?_, ?_⟩
    · rw [State.masterPulseStart, pulse, ← bit]
    · rw [State.masterPulseStart, pulse]
      rfl
  · refine ⟨by rw [State.drivesSyncLow, low]; rfl, s.masterPulseEnd, rfl, ?_, ?_⟩
    · rw [State.masterPulseEnd, low, ← State.clockTo_sync s d]
    · rw [State.masterPulseEnd, low]
      rfl
  · rw [State.drivesSyncLow, high]
    rfl

/-! ### WRITE TABLE (R70, R71, R110, R143, R159) -/

/-- A change of the tables changes each cue line whose mode changes, and the hold follows the report that the new tables give. -/
theorem changeTables_reheld (s : State) (T : Tables) :
    s.changeTables T = { s with tables := T, lanes := (s.changeTables T).lanes, hold := reheld s T } := by
  unfold State.changeTables
  rw [syncHold_reported]
  rfl

theorem changeTables_rewritten (s : State) (T : Tables) (n : LaneNo) : (s.changeTables T).lanes[n] = rewritten s T n := by
  rw [State.changeTables_lane, heldBy_eq_held]
  rfl

/-- A part that answers after its tables have changed. -/
theorem answered_changeTables (s : State) (T : Tables) (o : OrderMsg) (x : Result) (d : List Byte) :
    answered (s.changeTables T) o x d =
      { s with tables := T, lanes := (s.changeTables T).lanes, hold := reheld s T, answers := (answered s o x d).answers } := by
  rw [changeTables_reheld]
  unfold answered
  split <;> rfl

theorem reported_same (h : Hold) (limit : Nat) : reported h h.episode limit = h := if_pos rfl

theorem HoldOk.answered {s : State} (h : HoldOk s) (o : OrderMsg) (x : Result) (d : List Byte) : HoldOk (answered s o x d) := by
  unfold Safety.answered
  split <;> exact h

/-- Settles O9. -/
theorem writeTableResult : Obligations.WriteTableResult := by
  intro o s taken passed
  have ran := taken.ends (c := .writeTable) (run := orderWriteTable) (x := .done) (d := []) rfl (State.unlessRefused_none passed _ _)
    (State.changeTables_siteAddress _ _) (congrArg AnswerUnit.queue (State.changeTables_answers _ _))
  have written : answered ((s.clockAt o.time).storeWrite (WriteArgs.read o.args)) o .done [] = _ :=
    answered_changeTables (s.clockAt o.time) _ o .done []
  refine ⟨_, ran, ?_, fun n => ?_, fun ok => ⟨?_, fun same => ?_⟩⟩
  · rw [written]
    rfl
  · rw [written]
    exact changeTables_rewritten _ _ n
  · have now : HoldOk (s.clockAt o.time) := ok
    exact (now.changeTables _).answered o .done []
  · rw [written] at same ⊢
    have report : holdoverReport s.monitor.state (s.tables.storeAll (WriteArgs.read o.args).table (WriteArgs.read o.args).first
        (WriteArgs.read o.args).entries).site = s.hold.episode := same.trans ok.1.symm
    exact (congrArg (fun b => reported s.hold b _) report).trans (reported_same _ _)

end Sys2Proof.Safety
end

section
/-! PROOF. A stored entry reads back as written (R42, R44, R159, R187). -/

namespace Sys2Proof.Machine

/-! ### A field's byte is had back from what it codes (R183) -/

theorem byteOf_toNat (b : Byte) : byteOf b.toNat = b := BitVec.ofNat_toNat ..

theorem be16_halfAt (l : List Byte) (i : Nat) : be16 (halfAt l i) = [byteAt l i, byteAt l (i + 1)] := by
  have high : (byteAt l i ++ byteAt l (i + 1)).extractLsb' 8 8 = byteAt l i := BitVec.extractLsb'_append_eq_left
  have low : (byteAt l i ++ byteAt l (i + 1)).extractLsb' 0 8 = byteAt l (i + 1) := BitVec.extractLsb'_append_eq_right
  rw [be16, halfAt, high, low]

theorem be16Nat_halfAt (l : List Byte) (i : Nat) : be16Nat (halfAt l i).toNat = [byteAt l i, byteAt l (i + 1)] := by
  rw [be16Nat, BitVec.ofNat_toNat, BitVec.setWidth_eq, be16_halfAt]

/-- What a byte codes by `f`, if anything, has that byte for its code. -/
def Codes {α : Type} (code : α → Byte) (b : Byte) (f : Option α) : Prop := ∀ y, f = some y → code y = b

section

variable {α : Type} {code : α → Byte} {b c : Byte} {k : α} {rest : Option α}

theorem Codes.none : Codes code b none := nofun

theorem Codes.ite (first : code k = c) (others : Codes code b rest) : Codes code b (if b = c then some k else rest) := by
  intro y coded
  split at coded
  · next same =>
    obtain rfl := Option.some.inj coded
    exact first.trans same.symm
  · exact others y coded

theorem Codes.getD (coded : Codes code b rest) (some : rest.isSome = true) (x : α) : code (rest.getD x) = b := by
  obtain ⟨y, rfl⟩ := Option.isSome_iff_exists.1 some
  exact coded y rfl

end

theorem yesNo?_codes (b : Byte) : Codes yesNoByte b (yesNo? b) := .ite rfl (.ite rfl .none)

theorem ItemKind.ofCode?_codes (b : Byte) : Codes ItemKind.code b (ItemKind.ofCode? b) := .ite rfl (.ite rfl (.ite rfl (.ite rfl .none)))

theorem CueMode.ofCode?_codes (b : Byte) : Codes CueMode.code b (CueMode.ofCode? b) := .ite rfl (.ite rfl (.ite rfl (.ite rfl .none)))

theorem TriggerEdge.ofCode?_codes (b : Byte) : Codes TriggerEdge.code b (TriggerEdge.ofCode? b) := .ite rfl (.ite rfl (.ite rfl .none))

theorem Force.ofCode?_codes (b : Byte) : Codes Force.code b (Force.ofCode? b) := .ite rfl (.ite rfl (.ite rfl .none))

theorem Role.ofCode?_codes (b : Byte) : Codes Role.code b (Role.ofCode? b) := .ite rfl (.ite rfl (.ite rfl .none))

theorem zone?_codes (b : Byte) : Codes (fun z : Zone => byteOf z.val) b (zone? b) := by
  intro z coded
  unfold zone? at coded
  split at coded
  · obtain rfl := Option.some.inj coded
    exact byteOf_toNat b
  · cases coded

theorem yesNoByte_getD {b : Byte} (coded : (yesNo? b).isSome = true) (x : Bool) : yesNoByte ((yesNo? b).getD x) = b :=
  (yesNo?_codes b).getD coded x

theorem byteOf_zone_getD {b : Byte} (coded : (zone? b).isSome = true) (x : Zone) : byteOf ((zone? b).getD x).val = b :=
  (zone?_codes b).getD coded x

/-- A list is the run of its bytes. -/
theorem map_byteAt {l : List Byte} {n : Nat} (length : l.length = n) : (List.range n).map (byteAt l) = l := by
  refine List.ext_getElem (by simp [length]) fun i _ inside => ?_
  simp [byteAt, inside]

/-! ### Entries are had back from what they are parsed as (R187) -/

theorem LaneEntry.bytes_of_parse {l : List Byte} {e : LaneEntry} (parsed : LaneEntry.parse l = some e) : e.bytes = l := by
  unfold LaneEntry.parse at parsed
  split at parsed
  · next ok =>
    obtain ⟨length, zone, traffic, onAtStart, -⟩ := ok
    obtain rfl := (Option.some.inj parsed).symm
    refine Eq.trans ?_ (map_byteAt length)
    simp only [LaneEntry.bytes, LaneEntry.load, be16_halfAt, be16Nat_halfAt, byteOf_toNat, byteOf_zone_getD zone, yesNoByte_getD traffic,
      yesNoByte_getD onAtStart]
    rfl
  · cases parsed

theorem ListEntry.bytes_of_parse {l : List Byte} {e : ListEntry} (parsed : ListEntry.parse l = some e) : e.bytes = l := by
  unfold ListEntry.parse at parsed
  split at parsed
  · next ok =>
    obtain ⟨length, enabled, kind, -⟩ := ok
    obtain rfl := (Option.some.inj parsed).symm
    refine Eq.trans ?_ (map_byteAt length)
    simp only [ListEntry.bytes, ListEntry.load, byteOf_toNat, yesNoByte_getD enabled, (ItemKind.ofCode?_codes _).getD kind]
    rfl
  · cases parsed

theorem CueEntry.bytes_of_parse {l : List Byte} {e : CueEntry} (parsed : CueEntry.parse l = some e) : e.bytes = l := by
  unfold CueEntry.parse at parsed
  split at parsed
  · next ok =>
    obtain ⟨length, mode, urgentOnly, edge, fromAudio, truncate, activeLow, force, -⟩ := ok
    obtain rfl := (Option.some.inj parsed).symm
    refine Eq.trans ?_ (map_byteAt length)
    simp only [CueEntry.bytes, CueEntry.load, be16Nat_halfAt, byteOf_toNat, (CueMode.ofCode?_codes _).getD mode, yesNoByte_getD urgentOnly,
      (TriggerEdge.ofCode?_codes _).getD edge, yesNoByte_getD fromAudio, yesNoByte_getD truncate, yesNoByte_getD activeLow, (Force.ofCode?_codes _).getD force]
    rfl
  · cases parsed

theorem SiteEntry.bytes_of_parse {l : List Byte} {e : SiteEntry} (parsed : SiteEntry.parse l = some e) : e.bytes = l := by
  unfold SiteEntry.parse at parsed
  split at parsed
  · next ok =>
    obtain ⟨length, role, autostart, degraded, -⟩ := ok
    obtain rfl := (Option.some.inj parsed).symm
    refine Eq.trans ?_ (map_byteAt length)
    simp only [SiteEntry.bytes, SiteEntry.load, be16Nat_halfAt, byteOf_toNat, (Role.ofCode?_codes _).getD role, yesNoByte_getD autostart,
      yesNoByte_getD degraded]
    rfl
  · cases parsed

theorem NameEntry.bytes_of_parse {l : List Byte} {e : NameEntry} (parsed : NameEntry.parse l = some e) : e.bytes = l.map clampChar := by
  unfold NameEntry.parse at parsed
  split at parsed
  · obtain rfl := (Option.some.inj parsed).symm
    rfl
  · cases parsed

/-- The codes of a neighbour list below its count are the bytes behind the count. -/
theorem flatMap_halfAt (l : List Byte) (c : Nat) (length : 1 + 2 * c ≤ l.length) :
    ((List.range c).map (fun i => halfAt l (1 + 2 * i))).flatMap be16 = (l.drop 1).take (2 * c) := by
  induction c with
  | zero => rfl
  | succ c ih =>
    have first : (l.drop 1)[2 * c]? = some (byteAt l (1 + 2 * c)) := by
      rw [List.getElem?_drop, byteAt, List.getD_eq_getElem?_getD]
      simp [List.getElem?_eq_getElem (show 1 + 2 * c < l.length by omega)]
    have second : (l.drop 1)[2 * c + 1]? = some (byteAt l (1 + 2 * c + 1)) := by
      rw [List.getElem?_drop, byteAt, List.getD_eq_getElem?_getD]
      simp [List.getElem?_eq_getElem (show 1 + 2 * c + 1 < l.length by omega), ← Nat.add_assoc]
    rw [List.range_succ, List.map_append, List.flatMap_append, ih (by omega), show 2 * (c + 1) = 2 * c + 1 + 1 from rfl, List.take_add_one,
      List.take_add_one, first, second]
    simp [be16_halfAt]

theorem flatMap_replicate_zero (k : Nat) : (List.replicate k (0 : Half)).flatMap be16 = List.replicate (2 * k) 0 := by
  induction k with
  | zero => rfl
  | succ k ih => rw [List.replicate_succ, List.flatMap_cons, ih]; rfl

theorem NeighbourEntry.bytes_of_parse {l : List Byte} {e : NeighbourEntry} (parsed : NeighbourEntry.parse l = some e) :
    e.bytes = l.take (1 + 2 * (byteAt l 0).toNat) ++ List.replicate (48 - 2 * (byteAt l 0).toNat) 0 := by
  unfold NeighbourEntry.parse at parsed
  split at parsed
  · next length =>
    dsimp only at parsed
    split at parsed
    · next ok =>
      simp only [Bool.and_eq_true, decide_eq_true_eq] at ok
      have count : (byteAt l 0).toNat ≤ 24 := ok.1
      obtain rfl := (Option.some.inj parsed).symm
      have codes : ((List.range 24).map (fun i => halfAt l (1 + 2 * i))).take (byteAt l 0).toNat =
          (List.range (byteAt l 0).toNat).map (fun i => halfAt l (1 + 2 * i)) := by
        rw [← List.map_take, List.take_range, Nat.min_eq_left count]
      cases l with
      | nil => cases length
      | cons b rest =>
        simp only [NeighbourEntry.bytes, NeighbourEntry.load, codes, List.flatMap_append, flatMap_replicate_zero, byteOf_toNat]
        rw [flatMap_halfAt _ _ (by omega), Nat.mul_sub, Nat.add_comm 1]
        rfl
    · cases parsed
  · cases parsed

/-! ### Tables -/

/-- A table's bytes are those of its own part of the tables. -/
theorem Tables.entryBytes_copyTable_other (T src : Tables) (titles : Vector TitleRecord 16) {t u : Nat} (other : u ≠ t) (j : Nat) :
    (T.copyTable src t).entryBytes titles u j = T.entryBytes titles u j := by
  unfold Tables.copyTable
  split
  case h_9 => rfl
  all_goals
    unfold Tables.entryBytes
    split <;> first | rfl | exact (other rfl).elim

section

variable {α : Type} {n : Nat} (v : Vector α n) (f : α → List Byte) {i j : Nat} (e : α)

theorem getD_setIfInBounds_self (inside : i < n) : (((v.setIfInBounds i e)[i]?).map f).getD [] = f e := by
  simp [inside]

theorem getD_setIfInBounds_other (other : j ≠ i) : (((v.setIfInBounds i e)[j]?).map f).getD [] = ((v[j]?).map f).getD [] := by
  rw [Vector.getElem?_setIfInBounds_ne other.symm]

end

/-- What an entry's bytes read back as: as written, but for a name's clamped characters and the zeros of a neighbour list beyond its count. -/
def readBack (t : Nat) (l : List Byte) : List Byte :=
  if t = 5 then l.map clampChar
  else if t = 6 then l.take (1 + 2 * (byteAt l 0).toNat) ++ List.replicate (48 - 2 * (byteAt l 0).toNat) 0
  else l

/-- A stored entry reads back, and the others of its table read as before. -/
theorem Tables.entryBytes_store (T : Tables) (titles : Vector TitleRecord 16) {t i : Nat} {l : List Byte} (inside : i < entryCount t)
    (ok : entryOk t l = true) :
    (T.store t i l).entryBytes titles t i = readBack t l ∧
      ∀ j, j ≠ i → (T.store t i l).entryBytes titles t j = T.entryBytes titles t j := by
  unfold entryOk at ok
  split at ok
  · obtain ⟨e, parsed⟩ := Option.isSome_iff_exists.1 ok
    simp only [Tables.store, parsed, Tables.entryBytes]
    exact ⟨(getD_setIfInBounds_self _ _ _ inside).trans (LaneEntry.bytes_of_parse parsed), fun j => getD_setIfInBounds_other _ _ _⟩
  · obtain ⟨e, parsed⟩ := Option.isSome_iff_exists.1 ok
    simp only [Tables.store, parsed, Tables.entryBytes]
    exact ⟨(getD_setIfInBounds_self _ _ _ inside).trans (ListEntry.bytes_of_parse parsed), fun j => getD_setIfInBounds_other _ _ _⟩
  · obtain ⟨e, parsed⟩ := Option.isSome_iff_exists.1 ok
    simp only [Tables.store, parsed, Tables.entryBytes]
    exact ⟨(getD_setIfInBounds_self _ _ _ inside).trans (ListEntry.bytes_of_parse parsed), fun j => getD_setIfInBounds_other _ _ _⟩
  · obtain ⟨e, parsed⟩ := Option.isSome_iff_exists.1 ok
    simp only [Tables.store, parsed, Tables.entryBytes]
    exact ⟨(getD_setIfInBounds_self _ _ _ inside).trans (ListEntry.bytes_of_parse parsed), fun j => getD_setIfInBounds_other _ _ _⟩
  · obtain ⟨e, parsed⟩ := Option.isSome_iff_exists.1 ok
    simp only [Tables.store, parsed, Tables.entryBytes]
    exact ⟨(getD_setIfInBounds_self _ _ _ inside).trans (NameEntry.bytes_of_parse parsed), fun j => getD_setIfInBounds_other _ _ _⟩
  · obtain ⟨e, parsed⟩ := Option.isSome_iff_exists.1 ok
    simp only [Tables.store, parsed, Tables.entryBytes]
    exact ⟨(getD_setIfInBounds_self _ _ _ inside).trans (NeighbourEntry.bytes_of_parse parsed), fun j => getD_setIfInBounds_other _ _ _⟩
  · obtain ⟨e, parsed⟩ := Option.isSome_iff_exists.1 ok
    simp only [Tables.store, parsed, Tables.entryBytes]
    exact ⟨(getD_setIfInBounds_self _ _ _ inside).trans (CueEntry.bytes_of_parse parsed), fun j => getD_setIfInBounds_other _ _ _⟩
  · obtain ⟨e, parsed⟩ := Option.isSome_iff_exists.1 ok
    obtain rfl : i = 0 := Nat.lt_one_iff.1 inside
    simp only [Tables.store, parsed, Tables.entryBytes, if_true]
    exact ⟨SiteEntry.bytes_of_parse parsed, fun j other => by rw [if_neg other, if_neg other]⟩
  · cases ok

end Sys2Proof.Machine

namespace Sys2Proof.Safety

open Machine

/-- Settles O10. -/
theorem writeThenReadBack : Obligations.WriteThenReadBack := by
  intro T titles t i l first last inside ok
  obtain ⟨stored, others⟩ := T.entryBytes_store titles inside ok
  refine ⟨stored, fun u j different _ => ?_⟩
  by_cases table : u = t
  · subst table
    exact others j fun same => different (by rw [same])
  · rw [Tables.store_eq]
    exact Tables.entryBytes_copyTable_other _ _ _ table j

end Sys2Proof.Safety
end

section
/-! PROOF. Selections (R19 to R29, R33 to R35) and titles (R32, R48 to R52). -/

namespace Sys2Proof.Safety

open Machine

/-! ### The stages of a selection over a list (R23, R25 to R28) -/

theorem seek_eq_sought (x : Store) (k : LevelKind) (c : Cursor) (start : Nat) : x.seek k c start = sought x k c start := by
  unfold Store.seek sought
  cases x.search k start <;> rfl

theorem lengthCheck_of_le {x : Store} {k : LevelKind} {c : Cursor} (beyond : x.listLength k ≤ c.entry) : x.lengthCheck k c = Cursor.start :=
  if_pos beyond

theorem lengthCheck_of_lt {x : Store} {k : LevelKind} {c : Cursor} (inside : c.entry < x.listLength k) : x.lengthCheck k c = c :=
  if_neg (by omega)

theorem search_of_empty {x : Store} {k : LevelKind} (empty : x.listLength k = 0) (start : Nat) : x.search k start = none := by
  rw [Store.search, empty]
  rfl

/-- A visit goes on while its entry is enabled, still means its item, has content and has frames of its burst left. -/
theorem visitContinues_iff {x : Store} {k : LevelKind} {c : Cursor} {it : Item} (visit : c.visit = some it) :
    x.visitContinues k c = true ↔ (x.listEntry k c.entry).enabled = true ∧ it = x.item (x.listEntry k c.entry) ∧ x.hasContent it = true ∧
      c.progress < (x.listEntry k c.entry).burst := by
  unfold Store.visitContinues Store.sendable
  rw [visit]
  simp only [Bool.and_eq_true, beq_iff_eq, Option.some.injEq, decide_eq_true_eq]
  constructor
  · rintro ⟨⟨⟨enabled, same⟩, -, content⟩, left⟩
    exact ⟨enabled, same, by rw [same]; exact content, left⟩
  · rintro ⟨enabled, rfl, content, left⟩
    exact ⟨⟨⟨enabled, rfl⟩, enabled, content⟩, left⟩

/-- A segment sent: the one at the item's cursor, which moves to the next or, after the last, to 0. -/
theorem sendSegment_eq (x : Store) (segs : SegCursors) (it : Item) :
    x.sendSegment segs it = ({ item := it, segment := segmentOf x segs it, count := x.segmentCount it },
      segs.put it (if x.segmentCount it ≤ segmentOf x segs it + 1 then 0 else segmentOf x segs it + 1)) := by
  cases it <;> rfl

theorem get_put (segs : SegCursors) (it other : Item) (v : Nat) :
    (segs.put it v).get other = if other = it ∧ it ≠ .fill then v else segs.get other := by
  have swap {n : Nat} (i j : Fin n) (u : Vector Nat n) : (u.set i v)[j] = if j = i then v else u[j] := by
    simp [Vector.getElem_set, Fin.ext_iff, eq_comm]
  cases it <;> cases other <;> simp [SegCursors.put, SegCursors.get, swap]

/-- Settles O43. -/
theorem lengthCheck : Obligations.LengthCheck := by
  refine ⟨fun x k c => ⟨fun beyond => lengthCheck_of_le beyond, fun inside => lengthCheck_of_lt inside, fun empty => search_of_empty empty _⟩,
    fun x k c => ⟨fun none => ?_, fun it visit => ?_⟩, fun x k c segs => ⟨fun none => ?_, fun it visit => ?_⟩, get_put⟩
  · rw [Store.visitStage, none]
    exact seek_eq_sought ..
  · rw [Store.visitStage, visit]
    dsimp only
    rw [seek_eq_sought]
    exact if_congr (visitContinues_iff visit) rfl rfl
  · rw [Store.sendStage, none]
    rfl
  · rw [Store.sendStage, visit]
    dsimp only
    rw [sendSegment_eq, seek_eq_sought]

/-! ### The search (R21, R27) -/

/-- Every entry below the active length is reached from any start, wrapping. -/
theorem wrapped_reaches (start : Nat) {i n : Nat} (inside : i < n) : ∃ j, j < n ∧ (start + j) % n = i := by
  have below : start % n < n := Nat.mod_lt _ (by omega)
  rcases Nat.le_total (start % n) i with before | after
  · refine ⟨i - start % n, by omega, ?_⟩
    rw [← Nat.mod_add_mod, Nat.add_sub_cancel' before, Nat.mod_eq_of_lt inside]
  · rcases Nat.eq_or_lt_of_le after with same | after
    · exact ⟨0, by omega, by rw [Nat.add_zero, same]⟩
    · refine ⟨i + n - start % n, by omega, ?_⟩
      rw [← Nat.mod_add_mod, show start % n + (i + n - start % n) = i + n by omega, Nat.add_mod_right, Nat.mod_eq_of_lt inside]

theorem search_some {x : Store} {k : LevelKind} {start i : Nat} (found : x.search k start = some i) :
    i < x.listLength k ∧ x.sendable (x.listEntry k i) = true ∧
      ∃ j, j < x.listLength k ∧ i = (start + j) % x.listLength k ∧
        ∀ j', j' < j → x.sendable (x.listEntry k ((start + j') % x.listLength k)) = false := by
  obtain ⟨sendable, j, inside, at', before⟩ := List.find?_eq_some_iff_getElem.1 found
  have inside' : j < x.listLength k := by simpa using inside
  have at'' : (start + j) % x.listLength k = i := by simpa using at'
  refine ⟨by rw [← at'']; exact Nat.mod_lt _ (by omega), sendable, j, inside', at''.symm, fun j' earlier => ?_⟩
  simpa using before j' earlier

theorem search_none {x : Store} {k : LevelKind} {start : Nat} (missing : x.search k start = none) {i : Nat} (inside : i < x.listLength k) :
    x.sendable (x.listEntry k i) = false := by
  obtain ⟨j, low, at'⟩ := wrapped_reaches start inside
  have missing' := List.find?_eq_none.1 missing i (List.mem_map.2 ⟨j, List.mem_range.2 low, at'⟩)
  simpa using missing'

/-! ### The insertion queue (R33, R34) -/

theorem hasContent_title (x : Store) (z : Zone) : (!x.hasContent (.title z)) = (x.titles[z].length == 0) := by
  show (!decide (1 ≤ x.titles[z].length)) = _
  cases x.titles[z].length <;> rfl

theorem serve_eq_servedOnce (x : Store) (l : Lane) (z : Zone) (rest : List Zone) (sent : Nat) (queue : l.queue = z :: rest) :
    x.serve l z sent = servedOnce x l z rest sent := by
  unfold Store.serve servedOnce
  rw [sendSegment_eq]
  dsimp only
  split
  · rw [queue]
    rfl
  · rw [← queue]

theorem offer_eq_offered (x : Store) (l : Lane) : x.offer l = offered x l := by
  unfold Store.offer offered
  simp only [hasContent_title]
  cases l.queue.dropWhile (fun z => x.titles[z].length == 0) with
  | nil => rfl
  | cons z rest =>
    dsimp only
    rw [serve_eq_servedOnce x _ z rest 0 rfl]
    rfl

theorem offered_stack (x : Store) (l : Lane) : (offered x l).2.stack = l.stack := by
  unfold offered
  cases l.queue.dropWhile (fun z => x.titles[z].length == 0) <;> rfl

theorem insertionStage_stack (x : Store) (l : Lane) (progress : Nat) : (x.insertionStage l progress).2.stack = l.stack := by
  unfold Store.insertionStage
  split
  · next sent z rest _ queue =>
    rw [serve_eq_servedOnce x l z rest sent queue]
    split
    · dsimp only
      rw [offer_eq_offered]
      split
      · exact offered_stack ..
      · rfl
    · rfl
  · rw [offer_eq_offered]
    split
    · exact offered_stack ..
    · rfl

/-! ### The selection (R24) -/

theorem putTopCursor_of_stack {l : Lane} {below : List Level} {top : Level} (stack : l.stack = below ++ [top]) (c : Cursor) :
    l.putTopCursor c = { l with stack := below ++ [{ top with cursor := c }] } := by
  rw [Lane.putTopCursor, stack]
  simp

/-- What the top level's list sends, on the level wherever its cursor stands. -/
theorem sendFromList_of_stack {x : Store} {l : Lane} {below : List Level} {top : Level} {c' : Cursor}
    (stack : l.stack = below ++ [{ top with cursor := c' }]) (k : LevelKind) (c : Cursor) :
    x.sendFromList l k c =
      ((x.sendStage k (x.visitStage k c) l.segs).1,
        { l with
          stack := below ++ [{ top with cursor := (x.sendStage k (x.visitStage k c) l.segs).2.1 }]
          segs := (x.sendStage k (x.visitStage k c) l.segs).2.2 }) := by
  rw [Store.sendFromList, putTopCursor_of_stack stack]

section

variable {x : Store} {l m : Lane} {top : Level} (last : l.stack.getLast? = some top) (regular : top.kind = .regular)
include last regular

theorem select_of_service {content : Content}
    (stage : x.insertionStage (l.putTopCursor (x.lengthCheck top.kind top.cursor)) (x.lengthCheck top.kind top.cursor).progress =
      (some content, m)) : x.select l = (content, m) := by
  obtain ⟨kind, cursor, life⟩ := top
  obtain rfl : kind = .regular := regular
  rw [Store.select, last]
  dsimp only at stage ⊢
  rw [stage]

theorem select_of_list
    (stage : x.insertionStage (l.putTopCursor (x.lengthCheck top.kind top.cursor)) (x.lengthCheck top.kind top.cursor).progress = (none, m)) :
    x.select l = x.sendFromList m .regular (x.lengthCheck top.kind top.cursor) := by
  obtain ⟨kind, cursor, life⟩ := top
  obtain rfl : kind = .regular := regular
  rw [Store.select, last]
  dsimp only at stage ⊢
  rw [stage]

end

/-- Settles O44. -/
theorem searchFindsFirst : Obligations.SearchFindsFirst := by
  refine ⟨fun x k start => ?_, fun x e => ?_, fun x l progress => ⟨fun idle => ?_, fun sent z rest serving queue => ?_⟩,
    fun x l => ⟨fun empty => ?_, fun below top stack => ?_⟩⟩
  · cases found : x.search k start with
    | some i => exact search_some found
    | none => exact fun i inside => search_none found inside
  · unfold Store.sendable
    rw [Bool.and_eq_true]
    refine and_congr_right fun _ => ?_
    unfold Store.hasContent
    cases x.item e <;> simp [Nat.one_le_iff_ne_zero]
  · have stage : x.insertionStage l progress = if progress = 0 then x.offer l else (none, l) := by
      unfold Store.insertionStage
      rcases idle with none | empty
      · rw [none]
      · rw [empty]
        cases l.serving <;> rfl
    rw [stage, offer_eq_offered]
  · intro closed r
    rw [Store.insertionStage, serving, queue]
    dsimp only
    rw [offer_eq_offered, serve_eq_servedOnce x l z rest sent queue, hasContent_title]
    exact if_congr (by simp) rfl rfl
  · rw [Store.select, empty]
    rfl
  · intro c list
    have last : l.stack.getLast? = some top := by rw [stack]; simp
    have checked : l.putTopCursor c = { l with stack := below ++ [{ top with cursor := c }] } := putTopCursor_of_stack stack c
    refine ⟨fun other => ?_, fun regular => ?_⟩
    · have runs : x.select l = x.sendFromList { l.putTopCursor c with serving := none } top.kind c := by
        rw [Store.select, last]
        dsimp only
        split
        · next regular => exact absurd regular other
        · rfl
      rw [runs, checked]
      exact sendFromList_of_stack (top := top) (c' := c) rfl top.kind c
    · have kept := insertionStage_stack x { l with stack := below ++ [{ top with cursor := c }] } c.progress
      cases stage : x.insertionStage { l with stack := below ++ [{ top with cursor := c }] } c.progress with
      | mk content m =>
        rw [stage] at kept
        rw [← checked] at stage
        cases content with
        | some content => exact select_of_service last regular stage
        | none =>
          rw [select_of_list last regular stage, ← regular]
          exact sendFromList_of_stack (top := top) (c' := c) kept top.kind c

/-! ### Titles (R32, R48 to R52) -/

theorem identical_iff (r : TitleRecord) (n : Nat) (text : List Byte) : r.identical n text = true ↔ n = r.length ∧ text = r.text.take n := by
  rw [TitleRecord.identical, Bool.and_eq_true, decide_eq_true_iff, beq_iff_eq, eq_comm (a := text)]

/-- A lane that takes the request for a changed title: its cursor for the title at 0, and the request in its queue. -/
def requested (l : Lane) (z : Zone) : Lane :=
  { l with
    segs := l.segs.put (.title z) 0
    queue := if l.queue.contains z = false ∧ l.queue.length < 4 then l.queue ++ [z] else l.queue
    serving := if l.queue.head? = some z ∧ l.serving.isSome = true then some 0 else l.serving }

theorem request_eq (l : Lane) (z : Zone) :
    l.request z = { l with
      queue := if l.queue.contains z = false ∧ l.queue.length < 4 then l.queue ++ [z] else l.queue
      serving := if l.queue.head? = some z ∧ l.serving.isSome = true then some 0 else l.serving } := by
  unfold Lane.request
  cases queued : l.queue.contains z
  · have notHead : ¬(l.queue.head? = some z ∧ l.serving.isSome = true) := by
      rintro ⟨head, -⟩
      have : z ∈ l.queue := List.mem_of_mem_head? head
      simp [this] at queued
    rw [if_neg Bool.false_ne_true, if_neg notHead]
    by_cases room : l.queue.length < 4
    · rw [if_pos room, if_pos ⟨rfl, room⟩]
    · rw [if_neg room, if_neg (fun h => room h.2)]
  · have asked : ¬(true = false ∧ l.queue.length < 4) := fun h => Bool.noConfusion h.1
    rw [if_pos rfl, if_neg asked]
    by_cases head : l.queue.head? = some z ∧ l.serving.isSome = true
    · rw [if_pos head, if_pos head]
    · rw [if_neg head, if_neg head]

theorem titleChanged_eq (l : Lane) (own z : Zone) : l.titleChanged own z = if l.mode = .onAir ∧ own = z then requested l z else l := by
  unfold Lane.titleChanged
  rw [request_eq]
  rfl

section

variable {s : State} {n : Nat} {text : List Byte} {z : Zone}

theorem titleZone_of_same (same : s.titles[z].identical n text = true) : s.titleZone n text z = s := if_pos same

theorem titleZone_titles_of_other (other : ¬s.titles[z].identical n text = true) :
    (s.titleZone n text z).titles = s.titles.set z (s.titles[z].change n text) := congrArg State.titles (if_neg other)

theorem titleZone_titles (y : Zone) :
    (s.titleZone n text z).titles[y] =
      if y = z ∧ ¬(n = s.titles[z].length ∧ text = s.titles[z].text.take n) then s.titles[z].change n text else s.titles[y] := by
  by_cases same : s.titles[z].identical n text = true
  · rw [if_neg (fun h => h.2 ((identical_iff ..).1 same)), titleZone_of_same same]
  · have differs := fun h => same ((identical_iff ..).2 h)
    rw [titleZone_titles_of_other same]
    by_cases own : y = z
    · subst own
      rw [if_pos ⟨rfl, differs⟩]
      simp
    · have other : ¬z.val = y.val := fun e => own (Fin.ext e.symm)
      rw [if_neg (fun h => own h.1)]
      simp [other]

theorem titleZone_lanes (m : LaneNo) :
    (s.titleZone n text z).lanes[m] =
      if ¬(n = s.titles[z].length ∧ text = s.titles[z].text.take n) ∧ s.lanes[m].mode = .onAir ∧ s.tables.lane[m].zone = z then
        requested s.lanes[m] z
      else s.lanes[m] := by
  rw [State.titleZone_lane, titleChanged_eq]
  by_cases same : n = s.titles[z].length ∧ text = s.titles[z].text.take n
  · rw [if_pos ((identical_iff ..).2 same), if_neg (fun h => h.1 same)]
  · rw [if_neg (fun h => same ((identical_iff ..).1 h))]
    exact if_congr (by tauto) rfl rfl

theorem titleZone_frame : s.titleZone n text z = { s with titles := (s.titleZone n text z).titles, lanes := (s.titleZone n text z).lanes } := by
  unfold State.titleZone
  split <;> rfl

end

/-- A zone is handled as the text differs from its record. -/
def Differs (s : State) (n : Nat) (text : List Byte) (z : Zone) : Prop := ¬(n = s.titles[z].length ∧ text = s.titles[z].text.take n)

/-- The zones of a title are handled one after another, each against its own record and by the lanes of its own. -/
theorem titleZones (n : Nat) (text : List Byte) (zones : List Zone) (distinct : zones.Nodup) (s : State) :
    let t := zones.foldl (fun s z => s.titleZone n text z) s
    t = { s with titles := t.titles, lanes := t.lanes } ∧
    (∀ z : Zone, (z ∈ zones ∧ Differs s n text z → t.titles[z] = s.titles[z].change n text) ∧
      (¬(z ∈ zones ∧ Differs s n text z) → t.titles[z] = s.titles[z])) ∧
    ∀ m : LaneNo,
      (s.lanes[m].mode = .onAir ∧ s.tables.lane[m].zone ∈ zones ∧ Differs s n text s.tables.lane[m].zone →
        t.lanes[m] = requested s.lanes[m] s.tables.lane[m].zone) ∧
      (¬(s.lanes[m].mode = .onAir ∧ s.tables.lane[m].zone ∈ zones ∧ Differs s n text s.tables.lane[m].zone) → t.lanes[m] = s.lanes[m]) := by
  induction zones generalizing s with
  | nil => simp
  | cons y zones ih =>
    obtain ⟨fresh, distinct'⟩ := List.nodup_cons.1 distinct
    obtain ⟨frame, titles, lanes⟩ := ih distinct' (s.titleZone n text y)
    have first := titleZone_frame (s := s) (n := n) (text := text) (z := y)
    have tables : (s.titleZone n text y).tables = s.tables := by rw [first]
    have apart {z : Zone} (other : z ≠ y) : (s.titleZone n text y).titles[z] = s.titles[z] := by
      rw [titleZone_titles, if_neg (fun h => other h.1)]
    have differs {z : Zone} (other : z ≠ y) : Differs (s.titleZone n text y) n text z ↔ Differs s n text z := by
      unfold Differs
      rw [apart other]
    rw [tables] at lanes
    refine ⟨?_, fun z => ?_, fun m => ?_⟩
    · rw [List.foldl_cons, frame, first]
    · obtain ⟨changed, kept⟩ := titles z
      rw [List.foldl_cons]
      by_cases own : z = y
      · subst own
        have after := kept (fun h => fresh h.1)
        rw [after, titleZone_titles]
        exact ⟨fun h => if_pos ⟨rfl, h.2⟩, fun h => if_neg fun d => h ⟨List.mem_cons_self, d.2⟩⟩
      · rw [differs own, apart own] at changed kept
        refine ⟨fun h => changed ⟨(List.mem_cons.1 h.1).resolve_left own, h.2⟩, fun h => kept fun d => h ⟨List.mem_cons_of_mem y d.1, d.2⟩⟩
    · obtain ⟨changed, kept⟩ := lanes m
      rw [List.foldl_cons]
      by_cases own : s.tables.lane[m].zone = y
      · have after := kept (fun h => fresh (own ▸ h.2.1))
        rw [after, titleZone_lanes]
        refine ⟨fun h => ?_, fun h => if_neg fun d => h ⟨d.2.1, by rw [own]; exact List.mem_cons_self, by rw [own]; exact d.1⟩⟩
        rw [own] at h ⊢
        exact if_pos ⟨h.2.2, h.1, rfl⟩
      · have same : (s.titleZone n text y).lanes[m] = s.lanes[m] := by
          rw [titleZone_lanes, if_neg (fun h => own h.2.2)]
        rw [differs own, same] at changed kept
        exact ⟨fun h => changed ⟨h.1, (List.mem_cons.1 h.2.1).resolve_left own, h.2.2⟩,
          fun h => kept fun d => h ⟨d.1, List.mem_cons_of_mem y d.2.1, d.2.2⟩⟩

/-- Settles O45. -/
theorem titleTaken : Obligations.TitleTaken := by
  refine ⟨fun s n text z length => ?_, fun s m whole => ?_⟩
  · intro t
    refine ⟨fun same => titleZone_of_same ((identical_iff ..).2 same), fun differs => ⟨?_, fun y other => ?_, fun l other => ?_, fun l onAir own => ?_⟩⟩
    · exact (titleZone_titles z).trans (if_pos ⟨rfl, differs⟩)
    · exact (titleZone_titles y).trans (if_neg fun h => other h.1)
    · exact (titleZone_lanes l).trans (if_neg fun h => other h.2)
    · have lane : t.lanes[l] = requested s.lanes[l] z := (titleZone_lanes l).trans (if_pos ⟨differs, onAir, own⟩)
      rw [lane]
      exact ⟨(get_put s.lanes[l].segs (.title z) (.title z) 0).trans (if_pos ⟨rfl, Item.noConfusion⟩), rfl⟩
  · intro t text changed
    have member (z : Zone) : z ∈ zonesOf m.mask ↔ m.mask.getLsbD z.val = true := by simp [zonesOf]
    have distinct : (zonesOf m.mask).Nodup := (List.nodup_finRange 16).filter _
    obtain ⟨frame, titles, lanes⟩ := titleZones m.length text (zonesOf m.mask) distinct s
    refine ⟨frame, fun z => ?_, fun n => ?_⟩
    · obtain ⟨differs, same⟩ := titles z
      rw [member] at differs same
      by_cases c : changed z
      · rw [if_pos c]
        exact differs c
      · rw [if_neg c]
        exact same c
    · obtain ⟨differs, same⟩ := lanes n
      rw [member] at differs same
      by_cases c : s.lanes[n].mode = .onAir ∧ changed s.tables.lane[n].zone
      · exact (differs c).trans (if_pos c).symm
      · exact (same c).trans (if_neg c).symm

end Sys2Proof.Safety
end

section
/-! PROOF. The level stack of a lane (R57 to R65, R68, R71). -/

namespace Sys2Proof.Safety

open Machine

/-! ### Transitions on a stack (R62 to R65) -/

section

variable {stack : List Level} (shape : stackShape stack = true)
include shape

/-- A BULLETIN level that enters directly above REGULAR. -/
theorem insertBulletin_shape (absent : holds stack .bulletin = false) {v : Level} (kind : v.kind = .bulletin) :
    insertBulletin stack v = stack.take 1 ++ [v] ++ stack.drop 1 ∧ stackShape (insertBulletin stack v) = true := by
  obtain ⟨r, rest, rfl, regular, rfl | ⟨b, rfl, bulletin⟩ | ⟨u, rfl, urgent⟩ | ⟨b, u, rfl, bulletin, urgent⟩⟩ := (stackShape_iff _).1 shape
  · exact ⟨rfl, by simp [insertBulletin, stackShape, regular, kind]⟩
  · simp [holds, bulletin] at absent
  · exact ⟨rfl, by simp [insertBulletin, stackShape, regular, urgent, kind]⟩
  · simp [holds, bulletin] at absent

/-- An URGENT level that enters on top. -/
theorem urgentOnTop_shape (absent : holds stack .urgent = false) {v : Level} (kind : v.kind = .urgent) : stackShape (stack ++ [v]) = true := by
  obtain ⟨r, rest, rfl, regular, rfl | ⟨b, rfl, bulletin⟩ | ⟨u, rfl, urgent⟩ | ⟨b, u, rfl, bulletin, urgent⟩⟩ := (stackShape_iff _).1 shape
  · simp [stackShape, regular, kind]
  · simp [stackShape, regular, bulletin, kind]
  · simp [holds, urgent] at absent
  · simp [holds, urgent] at absent

/-- The removal of a BULLETIN or URGENT level leaves the shape. -/
theorem removeKind_shape {k : LevelKind} (removed : k ≠ .regular) : stackShape (removeKind stack k) = true := by
  obtain ⟨r, rest, rfl, regular, rfl | ⟨b, rfl, bulletin⟩ | ⟨u, rfl, urgent⟩ | ⟨b, u, rfl, bulletin, urgent⟩⟩ := (stackShape_iff _).1 shape
  all_goals cases k
  case inl.regular => exact absurd rfl removed
  all_goals simp_all [removeKind, stackShape]

end

theorem removeKind_of_absent {stack : List Level} {k : LevelKind} (absent : holds stack k = false) : removeKind stack k = stack := by
  refine List.filter_eq_self.2 fun v m => ?_
  simp only [holds, List.any_eq_false] at absent
  simpa using absent v m

/-- An END removes its level, and is stray without one. -/
theorem ending_eq (l : Lane) (k : LevelKind) :
    (if holds l.stack k then ({ l with stack := removeKind l.stack k }, false) else (l, true)) =
      (({ l with stack := removeKind l.stack k } : Lane), !holds l.stack k) := by
  cases present : holds l.stack k
  · rw [removeKind_of_absent present]
    rfl
  · rfl

/-- Settles O39. -/
theorem transitionsApplied : Obligations.TransitionsApplied := by
  intro x k l r shape t stray
  cases kind : r.kind
  case bulletinStart =>
    refine ⟨?_, fun _ => ?_, nofun, nofun, nofun⟩ <;> cases present : holds l.stack .bulletin
    · have e : t = { l with
          stack := insertBulletin l.stack (Level.enter .bulletin k x.entry.bulletinCeiling), sequence := l.sequence + 1 } := by
        simp [t, Store.applyTransition, kind, present]
      rw [e]
      exact (insertBulletin_shape shape present rfl).2
    · have e : t = l := by simp [t, Store.applyTransition, kind, present]
      rw [e]
      exact shape
    · refine ⟨by simp [stray, Store.applyTransition, kind, present], nofun, fun _ => ?_⟩
      have entered := (insertBulletin_shape shape present (v := Level.enter .bulletin k x.entry.bulletinCeiling) rfl).1
      simp only [t, Store.applyTransition, kind, present, Bool.false_eq_true, if_false, entered]
      rfl
    · exact ⟨by simp [stray, Store.applyTransition, kind, present], fun _ => by simp [t, Store.applyTransition, kind, present], nofun⟩
  case urgentStart =>
    refine ⟨?_, nofun, fun _ => ?_, nofun, nofun⟩ <;> cases present : holds l.stack .urgent
    · have e : t = { l with stack := l.stack ++ [Level.enter .urgent k x.entry.urgentCeiling] } := by
        simp [t, Store.applyTransition, kind, present]
      rw [e]
      exact urgentOnTop_shape shape present rfl
    · have e : t = l := by simp [t, Store.applyTransition, kind, present]
      rw [e]
      exact shape
    · refine ⟨by simp [stray, Store.applyTransition, kind, present], nofun, fun _ => ?_⟩
      simp only [t, Store.applyTransition, kind, present, Bool.false_eq_true, if_false]
      rfl
    · exact ⟨by simp [stray, Store.applyTransition, kind, present], fun _ => by simp [t, Store.applyTransition, kind, present], nofun⟩
  case bulletinEnd =>
    have e : x.applyTransition k l r = (({ l with stack := removeKind l.stack .bulletin } : Lane), !holds l.stack .bulletin) := by
      rw [Store.applyTransition, kind]
      exact ending_eq l .bulletin
    refine ⟨?_, nofun, nofun, fun _ => ⟨congrArg Prod.snd e, congrArg Prod.fst e⟩, nofun⟩
    rw [show t = _ from congrArg Prod.fst e]
    exact removeKind_shape shape (by decide)
  case urgentEnd =>
    have e : x.applyTransition k l r = (({ l with stack := removeKind l.stack .urgent } : Lane), !holds l.stack .urgent) := by
      rw [Store.applyTransition, kind]
      exact ending_eq l .urgent
    refine ⟨?_, nofun, nofun, nofun, fun _ => ⟨congrArg Prod.snd e, congrArg Prod.fst e⟩⟩
    rw [show t = _ from congrArg Prod.fst e]
    exact removeKind_shape shape (by decide)

/-! ### Records, ceilings, firings (R61, R68, R71) -/

/-- A record goes in behind every record due no later. -/
theorem insertRecord_split (r : Transition) (l : List Transition) :
    ∃ before after, l = before ++ after ∧ insertRecord r l = before ++ [r] ++ after ∧ (∀ q ∈ before, atOrBefore q.target r.target = true) ∧
      ∀ q, after.head? = some q → atOrBefore q.target r.target = false := by
  induction l with
  | nil => exact ⟨[], [], rfl, rfl, nofun, nofun⟩
  | cons q rest ih =>
    obtain ⟨before, after, split, inserted, early, late⟩ := ih
    cases due : atOrBefore q.target r.target
    · refine ⟨[], q :: rest, rfl, by simp [insertRecord, due], nofun, fun p first => ?_⟩
      obtain rfl := Option.some.inj first
      exact due
    · refine ⟨q :: before, after, by rw [split]; rfl, by simp [insertRecord, due, inserted], fun p m => ?_, late⟩
      rcases List.mem_cons.1 m with rfl | m
      · exact due
      · exact early p m

/-- A level stays at a ceiling's examination while its age is below 8 times its ceiling. -/
theorem removeCeilings_eq (k : AirNo) (stack : List Level) {stays : Level → Bool} (without : ∀ v, v.life = none → stays v = true)
    (aged : ∀ v life, v.life = some life → stays v = decide (sdiff k life.entryFrame < 8 * (life.ceiling : Int))) :
    removeCeilings k stack = stack.filter stays := by
  refine List.filter_congr fun v _ => ?_
  unfold Level.atCeiling
  cases e : v.life with
  | none => exact (without v e).symm
  | some life =>
    rw [aged v life e, ← decide_not]
    exact decide_eq_decide.2 Int.not_le

theorem latchIf_true {s : State} (e : Event) : (s.latchIf true e).latched e = true := State.latch_self s e

/-- A record that reaches an ON_AIR lane: late where its target has been built, and then due at the next frame. -/
def lateAs (l : Lane) (r : Transition) : Transition :=
  if atOrBefore r.target l.lastBuilt then { r with target := l.lastBuilt + 1, late := true } else r

section

variable {s : State} {n : LaneNo} {r : Transition} (onAir : s.lanes[n].mode = .onAir)
include onAir

theorem takeRecord_room (room : s.lanes[n].schedule.length < 8) :
    s.takeRecord n r = (s.latchIf (atOrBefore r.target s.lanes[n].lastBuilt) .cueLate).modLane n
      (fun l => { l with schedule := insertRecord (lateAs s.lanes[n] r) l.schedule }) := by
  have room' : (s.latchIf (atOrBefore r.target s.lanes[n].lastBuilt) .cueLate).lanes[n].schedule.length < 8 := by simpa using room
  unfold State.takeRecord
  rw [if_pos onAir]
  exact if_pos room'

theorem takeRecord_full (full : 8 ≤ s.lanes[n].schedule.length) :
    s.takeRecord n r = (s.latchIf (atOrBefore r.target s.lanes[n].lastBuilt) .cueLate).latch .scheduleFull := by
  have full' : ¬(s.latchIf (atOrBefore r.target s.lanes[n].lastBuilt) .cueLate).lanes[n].schedule.length < 8 := by simpa using full
  unfold State.takeRecord
  rw [if_pos onAir]
  exact if_neg full'

end

/-- RECORD_ARRIVES at an ON_AIR lane. -/
theorem recordArrives_result {s : State} {n : LaneNo} {i : Nat} {r : Transition} (onAir : s.lanes[n].mode = .onAir)
    (coming : s.lanes[n].records[i]? = some r) :
    (s.lanes[n].schedule.length < 8 → ∃ before after, s.lanes[n].schedule = before ++ after ∧
      (s.recordArrives n i).lanes[n] =
        { s.lanes[n] with records := s.lanes[n].records.eraseIdx i, schedule := before ++ [lateAs s.lanes[n] r] ++ after } ∧
      (∀ q ∈ before, atOrBefore q.target (lateAs s.lanes[n] r).target = true) ∧
      (∀ q, after.head? = some q → atOrBefore q.target (lateAs s.lanes[n] r).target = false) ∧
      (atOrBefore r.target s.lanes[n].lastBuilt = true → (s.recordArrives n i).latched .cueLate = true) ∧
      (atOrBefore r.target s.lanes[n].lastBuilt = false → (s.recordArrives n i).answers = s.answers) ∧
      ∀ m : LaneNo, m ≠ n → (s.recordArrives n i).lanes[m] = s.lanes[m]) ∧
    (8 ≤ s.lanes[n].schedule.length → (s.recordArrives n i).latched .scheduleFull = true ∧
      (s.recordArrives n i).lanes[n] = { s.lanes[n] with records := s.lanes[n].records.eraseIdx i }) := by
  obtain ⟨s', reached⟩ : ∃ s', s' = s.modLane n (fun l => { l with records := l.records.eraseIdx i }) := ⟨_, rfl⟩
  have lane : s'.lanes[n] = { s.lanes[n] with records := s.lanes[n].records.eraseIdx i } := by rw [reached, State.modLane_self]
  have others {m : LaneNo} (other : m ≠ n) : s'.lanes[m] = s.lanes[m] := by rw [reached, State.modLane_other _ _ _ _ other]
  have answers : s'.answers = s.answers := by rw [reached]; rfl
  have takes : s.recordArrives n i = s'.takeRecord n r := by rw [State.recordArrives, coming, reached]
  have onAir' : s'.lanes[n].mode = .onAir := by rw [lane]; exact onAir
  have built : s'.lanes[n].lastBuilt = s.lanes[n].lastBuilt := by rw [lane]
  have schedule : s'.lanes[n].schedule = s.lanes[n].schedule := by rw [lane]
  have raised : lateAs s'.lanes[n] r = lateAs s.lanes[n] r := by rw [lateAs, built]; rfl
  refine ⟨fun few => ?_, fun many => ?_⟩
  · obtain ⟨before, after, split, inserted, early, late⟩ := insertRecord_split (lateAs s.lanes[n] r) s.lanes[n].schedule
    rw [takes, takeRecord_room onAir' (by rw [schedule]; exact few), raised, built]
    refine ⟨before, after, split, ?_, early, late, fun isLate => ?_, fun inTime => ?_, fun m other => ?_⟩
    · rw [State.modLane_self, State.latchIf_lanes, schedule, inserted, lane]
    · rw [isLate]
      exact latchIf_true .cueLate
    · rw [inTime]
      exact answers
    · rw [State.modLane_other _ _ _ _ other, State.latchIf_lanes, others other]
  · rw [takes, takeRecord_full onAir' (by rw [schedule]; exact many)]
    refine ⟨State.latch_self _ _, ?_⟩
    rw [State.latch_lanes, State.latchIf_lanes, lane]

/-- CEILING_END of lane `n`, at the lane's last built frame. -/
def ceilingEnds (s : State) (n : LaneNo) : State :=
  (s.modLane n (fun l => { l with stack := removeCeilings s.lanes[n].lastBuilt s.lanes[n].stack })).latchIf
    (decide ((removeCeilings s.lanes[n].lastBuilt s.lanes[n].stack).length < s.lanes[n].stack.length)) .ceilingEnd

/-- Settles O40. -/
theorem laneEventResults : Obligations.LaneEventResults := by
  refine ⟨?_, fun s n => ?_, fun s due => ?_⟩
  · intro s n i r onAir coming late r'
    obtain ⟨room, full⟩ := recordArrives_result onAir coming
    refine ⟨fun few => ?_, fun many => ⟨_, rfl, full many⟩⟩
    obtain ⟨before, after, split, lane⟩ := room few
    exact ⟨_, before, after, rfl, split, lane⟩
  · have kept : (removeCeilings s.lanes[n].lastBuilt s.lanes[n].stack).length ≤ s.lanes[n].stack.length := List.length_filter_le ..
    have whole : (removeCeilings s.lanes[n].lastBuilt s.lanes[n].stack).length = s.lanes[n].stack.length →
        removeCeilings s.lanes[n].lastBuilt s.lanes[n].stack = s.lanes[n].stack := List.filter_eq_self.2 ∘ List.length_filter_eq_length_iff.1
    have stack : (ceilingEnds s n).lanes[n].stack = removeCeilings s.lanes[n].lastBuilt s.lanes[n].stack := by
      rw [ceilingEnds, State.latchIf_lanes, State.modLane_self]
    refine ⟨ceilingEnds s n, rfl, ?_, fun changed => ?_, fun same => ?_, fun m other => ?_⟩
    · rw [stack]
      exact removeCeilings_eq _ _ (fun v e => by rw [e]) (fun v life e => by rw [e])
    · rw [stack] at changed
      have fewer : (removeCeilings s.lanes[n].lastBuilt s.lanes[n].stack).length < s.lanes[n].stack.length :=
        Nat.lt_of_le_of_ne kept fun e => changed (whole e)
      rw [ceilingEnds, decide_eq_true fewer]
      exact latchIf_true .ceilingEnd
    · rw [stack] at same
      rw [ceilingEnds, same, decide_eq_false (Nat.lt_irrefl _)]
      exact State.putLane_self s n
    · rw [ceilingEnds, State.latchIf_lanes, State.modLane_other _ _ _ _ other]
  · refine ⟨s.fireHold, rfl, ?_, fun n => ?_⟩
    · rw [State.fireHold, if_pos due]
      rfl
    · rw [State.fireHold_lane, due]
      unfold Lane.heldBy
      simp

end Sys2Proof.Safety
end

section
/-! PROOF. The commands that leave every level stack (R58). -/

namespace Sys2Proof.Safety

open Machine

/-- Every lane has the level stack it has in `v`. -/
def StacksAre (v : Vector Lane 4) (s : State) : Prop := ∀ n : LaneNo, s.lanes[n].stack = v[n].stack

section

variable {v : Vector Lane 4} {s t : State}

theorem StacksAre.of_stacks (h : StacksAre v s) (same : ∀ n : LaneNo, t.lanes[n].stack = s.lanes[n].stack) : StacksAre v t :=
  fun n => (same n).trans (h n)

theorem StacksAre.of_lanes (h : StacksAre v s) (same : t.lanes = s.lanes) : StacksAre v t := h.of_stacks fun n => by rw [same]

theorem StacksAre.modLane (h : StacksAre v s) (n : LaneNo) {f : Lane → Lane} (kept : ∀ l, (f l).stack = l.stack) :
    StacksAre v (s.modLane n f) := by
  refine h.of_stacks fun m => ?_
  by_cases other : m = n
  · subst other
    rw [State.modLane_self, kept]
  · rw [State.modLane_other _ _ _ _ other]

theorem heldBy_stack (fires : Bool) (l : Lane) : (l.heldBy fires).stack = l.stack := by rw [Lane.heldBy_eq]

theorem StacksAre.changeTables (h : StacksAre v s) (T : Tables) : StacksAre v (s.changeTables T) := by
  refine h.of_stacks fun n => ?_
  rw [State.changeTables_lane, heldBy_stack]
  split <;> rfl

theorem StacksAre.putAnswers (h : StacksAre v s) (u : AnswerUnit) : StacksAre v (s.putAnswers u) := h

theorem StacksAre.latch (h : StacksAre v s) (e : Event) : StacksAre v (s.latch e) := h.of_lanes (by simp)

theorem StacksAre.putFeedState (h : StacksAre v s) (x : FeedState) : StacksAre v (s.putFeedState x) := by
  refine h.of_stacks fun n => ?_
  have lane := State.syncHold_lane (s.putMonitor { s.monitor with state := x }) n
  exact (congrArg Lane.stack lane).trans (heldBy_stack _ _)

theorem requested_stack (l : Lane) (z : Zone) : (requested l z).stack = l.stack := rfl

theorem StacksAre.path : PathKeep (StacksAre v) where
  clockAt _ h := h
  latch e h := h.latch e
  queueAnswer _ h := h.of_lanes (by simp)
  answers _ _ _ h := h
  feed _ h := h
  guard _ h := h
  lostAt _ h := h
  recordOutcome := recordOutcome_keeps (P := StacksAre v) (fun _ h => h) (fun _ h => h) (fun x h => h.putFeedState x) (fun e h => h.latch e)
  feedLost := feedLost_keeps (P := StacksAre v) (fun x h => h.putFeedState x) (fun e h => h.latch e)
  recent _ _ h := h
  titleZone text z _ _ h := h.of_stacks fun n => by
    rw [titleZone_lanes]
    split <;> rfl
  takeRecord {s} n r h := by
    unfold State.takeRecord
    split
    · have late : StacksAre v (s.latchIf (atOrBefore r.target s.lanes[n].lastBuilt) .cueLate) := h.of_lanes (by simp)
      dsimp only
      split
      · exact late.modLane n fun _ => rfl
      · exact late.latch _
    · exact h
  sendRecord n _ _ h := h.modLane n fun _ => rfl
  dropRecord n _ h := h.modLane n fun _ => rfl

theorem StacksAre.presetFree : PresetFree (StacksAre v) where
  changeTables T h := h.changeTables T
  protect _ h := h
  frozen _ h := h
  preset _ h := h
  memory _ h := h

theorem switchOn_stack (l : Lane) : l.switchOn.stack = l.stack := by
  unfold Lane.switchOn
  split
  · rfl
  · rfl
  · split <;> rfl

theorem StacksAre.switchOn (h : StacksAre v s) (b : Byte) : StacksAre v (s.mapNamed b Lane.switchOn) := by
  refine h.of_stacks fun n => ?_
  rw [State.mapNamed_lane]
  split
  · exact switchOn_stack _
  · rfl

theorem StacksAre.clockTo (h : StacksAre v s) (t : Micros) : StacksAre v (s.clockTo t) := h.of_lanes (by simp)

theorem StacksAre.fireHold (h : StacksAre v s) : StacksAre v s.fireHold :=
  h.of_stacks fun n => by rw [State.fireHold_lane, heldBy_stack]

theorem StacksAre.takePulse (h : StacksAre v s) (p : Micros) : StacksAre v (s.takePulse p) := by
  have slip : StacksAre v (s.slip p) := by
    refine h.of_stacks fun n => ?_
    have lane : (s.slip p).lanes[n] = (s.latch .syncSlip).lanes[n].slipped := State.mapLanes_lane (s.latch .syncSlip) Lane.slipped n
    rw [lane, State.latch_lanes]
    rfl
  unfold State.takePulse
  split
  · exact h
  · exact h
  · split
    · split
      · exact h
      · exact h
    · exact h
  · split
    · exact h
    · exact slip

theorem StacksAre.triggerArrives (h : StacksAre v s) (n : LaneNo) : StacksAre v (s.triggerArrives n) := by
  unfold State.triggerArrives
  split
  · exact h
  · next rest _ =>
    have taken : StacksAre v (s.modLane n (fun l => { l with triggers := rest })) := h.modLane n fun _ => rfl
    dsimp only
    split
    · exact StacksAre.path.latchIf _ _ (taken.modLane n fun _ => rfl)
    · exact taken

/-- What an order leaves, refused or carried out and answered. -/
theorem StacksAre.ordered (h : StacksAre v s) {r : Reply} {refusal : Option Result} {u : State} (done : StacksAre v u) {x : Result}
    {d : List Byte} : StacksAre v (s.unlessRefused r refusal (u.reply r x d)) :=
  StacksAre.path.unlessRefused _ _ h fun _ => StacksAre.path.reply _ _ _ done

theorem StacksAre.takeOrder (h : StacksAre v s) {run : List Byte → Reply → State → State}
    (calm : ∀ {u : State} (args : List Byte) (r : Reply), StacksAre v u → StacksAre v (run args r u)) (o : OrderMsg) :
    StacksAre v (s.takeOrder o run) := StacksAre.path.takeOrder calm o h

end

/-- Settles O38: command by command, of those in which no lane builds, joins, leaves the air or is reset. -/
theorem stacksChangeAtBuildsOnly : Obligations.StacksChangeAtBuildsOnly := by
  intro c s t leaves ran
  show StacksAre s.lanes t
  have start : StacksAre s.lanes s := fun _ => rfl
  have k : PathKeep (StacksAre s.lanes) := StacksAre.path
  have p : PresetFree (StacksAre s.lanes) := StacksAre.presetFree
  cases c <;> cases ran
  case hardReset => exact absurd leaves Bool.false_ne_true
  case restartDeadline => exact absurd leaves Bool.false_ne_true
  case feedFrameComplete => exact absurd leaves Bool.false_ne_true
  case laneOff => exact absurd leaves Bool.false_ne_true
  case stopAir => exact absurd leaves Bool.false_ne_true
  case startAir => exact absurd leaves Bool.false_ne_true
  case startUpLoadEnd => exact absurd leaves Bool.false_ne_true
  case earlyBuild => exact absurd leaves Bool.false_ne_true
  case lineStart => exact absurd leaves Bool.false_ne_true
  case ceilingEnd => exact absurd leaves Bool.false_ne_true
  case finalFrameEnd => exact absurd leaves Bool.false_ne_true
  case syncPatternSeen time => exact k.patternSeen (k.clockAt time start)
  case frameForward => exact k.frameForward start
  case lostTimerExpiry => exact k.lostTimerExpiry start
  case recordArrives n i => exact k.recordArrives n i start
  case poll o => exact start.takeOrder (fun _ _ h => h.ordered h) o
  case readTable o => exact start.takeOrder (fun _ _ h => h.ordered h) o
  case writeTable o => exact start.takeOrder (fun _ _ h => h.ordered (h.changeTables _)) o
  case protectTables o => exact start.takeOrder (fun _ _ h => h.ordered (p.protect _ h)) o
  case unprotectTables o => exact start.takeOrder (fun _ _ h => h.ordered (p.protect _ h)) o
  case setProtectLock o => exact start.takeOrder (fun _ _ h => h.ordered (p.protect _ h)) o
  case clearProtectLock o => exact start.takeOrder (fun _ _ h => h.ordered (p.protect _ h)) o
  case freezeLane o => exact start.takeOrder (fun args r h => k.orderFreezeLane p.taken args r h) o
  case laneOn o => exact start.takeOrder (fun _ _ h => h.ordered (h.switchOn _)) o
  case savePreset o => exact start.takeOrder (fun _ _ h => k.unlessRefused _ _ h fun _ => p.preset _ h) o
  case loadPreset o => exact start.takeOrder (fun _ _ h => k.unlessRefused _ _ h fun _ => p.preset _ h) o
  case readEvents o => exact start.takeOrder (fun _ _ h => h.ordered h) o
  case clearEvents o => exact start.takeOrder (fun _ _ h => h.ordered (h.putAnswers _)) o
  case setAlertMask o => exact start.takeOrder (fun _ _ h => h.ordered (h.putAnswers _)) o
  case setMarker o => exact start.takeOrder (fun _ _ h => h.ordered (h.putAnswers _)) o
  case restart o => exact start.takeOrder (fun args r h => k.orderRestart args r h) o
  case presetAccessTimeout time n => exact p.presetAccessTimeout k n (k.clockAt time start)
  case startUpTablePlaced time => exact p.startUpTablePlaced k (k.clockAt time start)
  case freezeRecordRead time => exact p.freezeRecordRead k (k.clockAt time start)
  case saveRecordWritten time => exact p.saveRecordWritten k (k.clockAt time start)
  case loadPresetStepDone time => exact p.loadPresetStepDone k (k.clockAt time start)
  case freezeWriteComplete time ok n => exact p.freezeWriteComplete k ok n (k.clockAt time start)
  case holdFires => exact start.fireHold
  case syncPulse time =>
    unfold State.syncPulse
    dsimp only
    split
    · exact (k.clockAt time start).takePulse _
    · exact k.clockAt time start
  case syncPulseMissed => exact start.of_lanes (State.syncPulseMissed_lanes s)
  case syncLost => exact start.of_lanes (State.syncLost_lanes s)
  case masterPulseStart => exact start.of_lanes (State.masterPulseStart_lanes s)
  case masterPulseEnd => exact start.of_lanes (State.masterPulseEnd_lanes s)
  case triggerArrives n => exact start.triggerArrives n
  case triggerDue n =>
    unfold State.triggerDue
    split
    · exact start
    · exact (start.clockTo _).modLane n fun _ => rfl
  case phaseEnd n =>
    unfold State.phaseEnd
    split
    · exact start
    · exact (start.clockTo _).modLane n fun _ => rfl
  case guardLineChange time active => exact k.guard _ (k.clockAt time start)

end Sys2Proof.Safety
end

section
/-! PROOF. A built frame word by word, and the build of a frame whole (R1 to R8, R60 to R76, R189, R190). -/

namespace Sys2Proof.Machine

open Safety

/-! ### Payloads -/

/-- Values packed one after another, each in the `w` low bits, stand there again. -/
theorem packed_getLsbD (w : Nat) (g : Nat → BitVec 72) (narrow : ∀ i b, w ≤ b → (g i).getLsbD b = false) (n : Nat) :
    ∀ i < n, ∀ b < w, w * (n - 1 - i) + b < 72 →
      ((List.range n).foldl (fun (acc : BitVec 72) i => (acc <<< w) ||| g i) 0).getLsbD (w * (n - 1 - i) + b) = (g i).getLsbD b := by
  induction n with
  | zero => exact fun i none => absurd none (Nat.not_lt_zero i)
  | succ n ih =>
    intro i within b low inside
    rw [List.range_succ, List.foldl_append]
    simp only [List.foldl_cons, List.foldl_nil, BitVec.getLsbD_or, BitVec.getLsbD_shiftLeft]
    rcases Nat.lt_or_ge i n with earlier | last
    · have place : w * (n + 1 - 1 - i) + b = w + (w * (n - 1 - i) + b) := by
        rw [show n + 1 - 1 - i = n - 1 - i + 1 by omega, Nat.mul_succ]
        omega
      rw [place] at inside ⊢
      rw [narrow n _ (Nat.le_add_right w _), Nat.add_sub_cancel_left, ih i earlier b low (by omega)]
      simp [inside]
    · have here : i = n := by omega
      subst here
      simp [low]

theorem getLsbD_setWidth_of_ge {m : Nat} (v : BitVec m) {b : Nat} (high : m ≤ b) : (v.setWidth 72).getLsbD b = false := by
  rw [BitVec.getLsbD_setWidth, BitVec.getLsbD_of_ge v b high, Bool.and_false]

theorem byteAt_drop (l : List Byte) (k j : Nat) : byteAt (l.drop k) j = byteAt l (k + j) := by
  simp [byteAt, List.getD_eq_getElem?_getD]

theorem charPayload_chars (chars : List Byte) {j : Nat} (within : j < 9) :
    (charPayload chars).extractLsb' (8 * (8 - j)) 8 = byteAt chars j := by
  refine BitVec.eq_of_getLsbD_eq fun b low => ?_
  have packed := packed_getLsbD 8 (fun i => (byteAt chars i).setWidth 72) (fun _ _ => getLsbD_setWidth_of_ge _) 9 j within b low (by omega)
  have bit : (charPayload chars).getLsbD (8 * (8 - j) + b) = ((byteAt chars j).setWidth 72).getLsbD b := packed
  rw [BitVec.getLsbD_extractLsb', bit]
  simp [low]
  omega

theorem codePayload_codes (codes : List Half) {j : Nat} (within : j < 8) :
    (codePayload codes).extractLsb' (9 * (7 - j)) 9 = (codes.getD j 0).setWidth 9 := by
  refine BitVec.eq_of_getLsbD_eq fun b low => ?_
  have packed := packed_getLsbD 9 (fun i => ((codes.getD i 0).setWidth 9).setWidth 72) (fun _ _ => getLsbD_setWidth_of_ge _) 8 j within b low
    (by omega)
  have bit : (codePayload codes).getLsbD (9 * (7 - j) + b) = (((codes.getD j 0).setWidth 9).setWidth 72).getLsbD b := packed
  rw [BitVec.getLsbD_extractLsb', bit]
  simp [low]
  omega

theorem Store.payload_is (x : Store) (c : Content) : PayloadIs x c (x.payload c) := by
  obtain ⟨item, segment, count⟩ := c
  cases item with
  | fill => rfl
  | name i => exact fun j within => (charPayload_chars _ within).trans (byteAt_drop _ _ _)
  | title z => exact fun j within => (charPayload_chars _ within).trans (byteAt_drop _ _ _)
  | neighbour i =>
    refine fun j within => (codePayload_codes _ within).trans ?_
    simp [List.getD_eq_getElem?_getD]

/-! ### Frames -/

/-- A frame made of a header and a payload has them, word by word. -/
theorem frameIs_make (number : AirNo) (h : Header) (payload : BitVec 72) :
    FrameIs (AirFrame.make number h payload) number h.kind.code h.t h.b h.u h.zone h.position h.segment h.version h.count payload := by
  refine ⟨rfl, rfl, _, _, _, ?_, rfl, rfl, rfl⟩
  refine BitVec.eq_of_getLsbD_eq fun b low => ?_
  simp only [BitVec.getLsbD_append, BitVec.getLsbD_extractLsb']
  rcases Nat.lt_or_ge b 24 with first | first
  · simp [first]
  · rcases Nat.lt_or_ge b 48 with second | second
    · simp [show ¬b < 24 by omega, show b - 24 < 24 by omega, show 24 + (b - 24) = b by omega]
    · simp [show ¬b < 24 by omega, show ¬b - 24 < 24 by omega, show b - 24 - 24 < 24 by omega, show 48 + (b - 24 - 24) = b by omega]

theorem Store.headFrame_is (x : Store) (f : LineFrame) (b u : Bool) (sequence : Byte) : HeadIs x f (x.headFrame f b u sequence) b u sequence :=
  frameIs_make _ _ _

theorem Store.contentFrame_is (x : Store) (f : LineFrame) (b u : Bool) (c : Content) : ContentIs x f (x.contentFrame f b u c) b u c := by
  refine ⟨x.payload c, x.payload_is c, ?_⟩
  have made := frameIs_make f.number (x.header c.item.frameKind b u f.position c) (x.payload c)
  obtain ⟨item, segment, count⟩ := c
  cases item <;> exact made

/-- The traffic, B and U bits of a frame. -/
theorem frameIs_flags {fr : AirFrame} {number : AirNo} {kind : BitVec 4} {t b u : Bool} {zone : Zone} {position : BitVec 3} {segment : Nat}
    {version : BitVec 2} {count : Nat} {payload : BitVec 72} (is : FrameIs fr number kind t b u zone position segment version count payload) :
    fr.bit 4 = t ∧ fr.bit 5 = b ∧ fr.bit 6 = u := by
  obtain ⟨-, carried, -⟩ := is
  unfold AirFrame.bit
  rw [carried]
  simp only [BitVec.getLsbD_append, Nat.reduceSub, Nat.reduceLT, ↓reduceIte, BitVec.getLsbD_ofBool, decide_true, Bool.true_and, and_self]

/-- The frame is sent word by word, each from its bit 31 (R6). -/
theorem AirFrame.bit_words (fr : AirFrame) {i : Nat} (within : i < 32) :
    fr.bit i = fr.word0.getLsbD (31 - i) ∧ fr.bit (32 + i) = fr.word1.getLsbD (31 - i) ∧ fr.bit (64 + i) = fr.word2.getLsbD (31 - i) ∧
      fr.bit (96 + i) = fr.word3.getLsbD (31 - i) := by
  unfold AirFrame.bit
  simp only [BitVec.getLsbD_append]
  refine ⟨?_, ?_, ?_, ?_⟩
  · rw [if_neg (by omega), if_neg (by omega), if_neg (by omega), show 127 - i - 32 - 32 - 32 = 31 - i by omega]
  · rw [if_neg (by omega), if_neg (by omega), if_pos (by omega), show 127 - (32 + i) - 32 - 32 = 31 - i by omega]
  · rw [if_neg (by omega), if_pos (by omega), show 127 - (64 + i) - 32 = 31 - i by omega]
  · rw [if_pos (by omega), show 127 - (96 + i) = 31 - i by omega]

/-! ### Step 1 of a build, record by record -/

/-- A lane after the first `n` records due of a build. -/
def Store.appliedTo (x : Store) (k : AirNo) (due : List Transition) (l : Lane) (n : Nat) : Lane :=
  (due.take n).foldl (fun (m : Lane) (q : Transition) => (x.applyTransition k m q).1) l

/-- Record `n` due is a stray END. -/
def Store.strayAt (x : Store) (k : AirNo) (due : List Transition) (l : Lane) (n : Nat) : Bool :=
  match due[n]? with
  | some q => (x.applyTransition k (x.appliedTo k due l n) q).2
  | none => false

/-- `cause` is the record that last changed a flag in the first `n` of step 1. -/
structure CausedBy (due : List Transition) (flag : Nat → Bool) (n : Nat) (cause : Option Transition) : Prop where
  unchanged : (∀ m, m < n → flag m = flag (m + 1)) → cause = none
  last : ∀ (m : Nat) (q : Transition), m < n → due[m]? = some q → flag m ≠ flag (m + 1) →
    (∀ j, m + 1 ≤ j → j ≤ n → flag j = flag n) → cause = some q

theorem CausedBy.start (due : List Transition) (flag : Nat → Bool) : CausedBy due flag 0 none :=
  ⟨fun _ => rfl, fun m _ none => absurd none (Nat.not_lt_zero m)⟩

theorem CausedBy.next {due : List Transition} {flag : Nat → Bool} {n : Nat} {cause : Option Transition} {r : Transition}
    (h : CausedBy due flag n cause) (this : due[n]? = some r) :
    CausedBy due flag (n + 1) (if flag (n + 1) != flag n then some r else cause) := by
  by_cases same : flag (n + 1) = flag n
  · rw [same, bne_self_eq_false, if_neg Bool.false_ne_true]
    refine ⟨fun all => h.unchanged fun m earlier => all m (by omega), fun m q earlier at_ changed rest => ?_⟩
    rcases Nat.lt_or_ge m n with before | last
    · exact h.last m q before at_ changed fun j after upTo => by rw [rest j after (by omega), same]
    · obtain rfl : m = n := by omega
      exact absurd same.symm changed
  · rw [if_pos (bne_iff_ne.2 same)]
    refine ⟨fun all => absurd (all n (by omega)).symm same, fun m q earlier at_ changed rest => ?_⟩
    rcases Nat.lt_or_ge m n with before | last
    · exact absurd (rest n (by omega) (by omega)).symm same
    · obtain rfl : m = n := by omega
      exact this.symm.trans at_

/-- The audio time of a flag's trigger comes from the flag's cause (R76). -/
theorem CausedBy.audio {due : List Transition} {flag : Nat → Bool} {cause : Option Transition} (h : CausedBy due flag due.length cause)
    (final : Bool) : AudioOf due flag final (triggerAudio (flag due.length) final cause) := by
  refine ⟨fun removed => ?_, fun n q at_ changed rest => ?_, fun all => ?_⟩
  · rw [triggerAudio.eq_def, if_pos (bne_iff_ne.2 removed)]
  · have within : n < due.length := (List.getElem?_eq_some_iff.1 at_).1
    have stands : flag due.length = final := rest _ within (Nat.le_refl _)
    have cause := h.last n q within at_ changed fun j after upTo => (rest j after upTo).trans stands.symm
    rw [triggerAudio.eq_def, stands, bne_self_eq_false, if_neg Bool.false_ne_true, cause]
  · rw [h.unchanged all, triggerAudio.eq_def]
    split <;> rfl

/-- What step 1 has found after `n` records. -/
structure AppliedUpTo (x : Store) (k : AirNo) (due : List Transition) (l : Lane) (n : Nat) (a : Applied) : Prop where
  lane : a.lane = x.appliedTo k due l n
  stray : a.stray = (List.range n).any (x.strayAt k due l)
  b : CausedBy due (fun n => flagB (x.appliedTo k due l n).stack) n a.bCause
  u : CausedBy due (fun n => flagU (x.appliedTo k due l n).stack) n a.uCause

theorem Store.appliedTo_succ (x : Store) (k : AirNo) (due : List Transition) (l : Lane) {n : Nat} {r : Transition} (this : due[n]? = some r) :
    x.appliedTo k due l (n + 1) = (x.applyTransition k (x.appliedTo k due l n) r).1 := by
  simp [Store.appliedTo, List.take_add_one, this]

theorem AppliedUpTo.next {x : Store} {k : AirNo} {due : List Transition} {l : Lane} {n : Nat} {a : Applied} {r : Transition}
    (h : AppliedUpTo x k due l n a) (this : due[n]? = some r) : AppliedUpTo x k due l (n + 1) (x.applyNext k a r) := by
  have succ := x.appliedTo_succ k due l this
  refine ⟨?_, ?_, ?_, ?_⟩
  · rw [succ, ← h.lane]
    rfl
  · rw [List.range_succ, List.any_append, ← h.stray]
    simp [Store.applyNext, Store.strayAt, this, h.lane]
  · have cause := h.b.next this
    simp only [succ, ← h.lane] at cause
    exact cause
  · have cause := h.u.next this
    simp only [succ, ← h.lane] at cause
    exact cause

/-- Step 1 is the application of the records due, in order (R60, R66). -/
theorem Store.applyDue_upTo (x : Store) (k : AirNo) (l : Lane) :
    AppliedUpTo x k (dueRecords k l.schedule) { l with schedule := l.schedule.drop (dueRecords k l.schedule).length }
      (dueRecords k l.schedule).length (x.applyDue k l) := by
  unfold Store.applyDue
  generalize dueRecords k l.schedule = due
  generalize start : { l with schedule := l.schedule.drop due.length } = m
  have upTo (n : Nat) (within : n ≤ due.length) : AppliedUpTo x k due m n
      ((due.take n).foldl (x.applyNext k) { lane := m, stray := false, bCause := none, uCause := none }) := by
    induction n with
    | zero => exact ⟨rfl, rfl, .start _ _, .start _ _⟩
    | succ n ih =>
      have this : due[n]? = some due[n] := List.getElem?_eq_getElem within
      rw [List.take_add_one, this, List.foldl_append]
      exact (ih (by omega)).next this
  have all := upTo due.length (Nat.le_refl _)
  rwa [List.take_length] at all

/-! ### Steps 2 to 4 of a build -/

theorem removeHeld_eq (k : AirNo) (stack : List Level) {stays : Level → Bool} (without : ∀ v, v.life = none → stays v = true)
    (entered : ∀ v life, v.life = some life → stays v = decide (0 ≤ sdiff life.entryFrame k)) : removeHeld k stack = stack.filter stays := by
  refine List.filter_congr fun v _ => ?_
  unfold Level.enteredBefore before
  cases e : v.life with
  | none => exact (without v e).symm
  | some life =>
    rw [entered v life e, ← decide_not]
    exact decide_eq_decide.2 Int.not_lt

theorem sameLevels.topKind {a b : List Level} (h : sameLevels a b) : topKind a = topKind b := by
  have last := congrArg (fun c => c.getLast?.map Prod.fst) h
  simpa [Machine.topKind, Function.comp_def] using last

theorem Scheduled.prevB {l m : Lane} (h : Scheduled l m) : m.prevB = l.prevB := (congrArg Lane.prevB h.frame :)
theorem Scheduled.prevU {l m : Lane} (h : Scheduled l m) : m.prevU = l.prevU := (congrArg Lane.prevU h.frame :)
theorem Scheduled.topKind {l m : Lane} (h : Scheduled l m) : topKind m.stack = topKind l.stack := h.levels.topKind

/-- An edge of a flag posts its trigger (R75). -/
theorem edgeTriggers_eq (prevB prevU b u : Bool) (line : Micros) (bAudio uAudio : Option Micros) :
    edgeTriggers prevB prevU b u line bAudio uAudio =
      (if b = prevB then [] else [{ edge := if b then .bUp else .bDown, line := line, audio := bAudio }]) ++
      (if u = prevU then [] else [{ edge := if u then .uUp else .uDown, line := line, audio := uAudio }]) := by
  unfold edgeTriggers
  by_cases sameB : b = prevB <;> by_cases sameU : u = prevU <;> simp [sameB, sameU]

/-- What steps 2 to 4 leave, by the stacks they make and what step 1 left. -/
theorem Store.settle_of_stacks (x : Store) (k : AirNo) (line : Micros) (l : Lane) {stack2 stack3 : List Level}
    (ceilings : removeCeilings k (x.applyDue k l).lane.stack = stack2)
    (hold : (if l.holdPending = true then removeHeld k stack2 else stack2) = stack3) :
    x.settle k line l =
      { lane := { (x.applyDue k l).lane with
          stack := stack3, holdPending := false, prevB := flagB stack3, prevU := flagU stack3
          triggers := l.triggers ++ edgeTriggers l.prevB l.prevU (flagB stack3) (flagU stack3) line
            (triggerAudio (flagB (x.applyDue k l).lane.stack) (flagB stack3) (x.applyDue k l).bCause)
            (triggerAudio (flagU (x.applyDue k l).lane.stack) (flagU stack3) (x.applyDue k l).uCause) }
        events := (if (x.applyDue k l).stray then [.strayEnd] else []) ++
          (if stack2.length < (x.applyDue k l).lane.stack.length then [.ceilingEnd] else []) ++
          (if stack3.length < stack2.length then [.holdEnd] else []) } := by
  have frame := x.applyDue_frame k l
  have pending : (x.applyDue k l).lane.holdPending = l.holdPending := (congrArg Lane.holdPending frame :)
  have prevB : (x.applyDue k l).lane.prevB = l.prevB := (congrArg Lane.prevB frame :)
  have prevU : (x.applyDue k l).lane.prevU = l.prevU := (congrArg Lane.prevU frame :)
  have triggers : (x.applyDue k l).lane.triggers = l.triggers := (congrArg Lane.triggers frame :)
  subst ceilings hold
  rw [← pending, ← prevB, ← prevU, ← triggers]
  rfl

end Sys2Proof.Machine

namespace Sys2Proof.Safety

open Machine

/-- Settles O37: step 1 record by record, steps 2 to 4 by the stacks they make, then the frame word by word. -/
theorem builtFrameFlags : Obligations.BuiltFrameFlags := by
  refine ⟨?_, fun x f l => ⟨_, rfl, x.headFrame_is f false false 0⟩, fun fr i => fr.bit_words i.isLt, fun s n => ⟨?_, ?_⟩⟩
  · intro x f l due applied strays stack1 stack2 stack3 isB isU b u r
    have step1 : AppliedUpTo x f.number due { l with schedule := l.schedule.drop due.length } due.length (x.applyDue f.number l) :=
      x.applyDue_upTo f.number l
    have lane : (x.applyDue f.number l).lane = applied due.length := step1.lane
    have ceilings : removeCeilings f.number (x.applyDue f.number l).lane.stack = stack2 := by
      rw [lane]
      exact removeCeilings_eq _ _ (fun v e => by rw [e]) (fun v life e => by rw [e])
    have hold : (if l.holdPending = true then removeHeld f.number stack2 else stack2) = stack3 :=
      congrArg (fun z => if l.holdPending = true then z else stack2)
        (removeHeld_eq f.number stack2 (fun v e => by rw [e]) (fun v life e => by rw [e]))
    have settled := x.settle_of_stacks f.number f.start l ceilings hold
    have bAudio := step1.b.audio b
    have uAudio := step1.u.audio u
    rw [edgeTriggers_eq, ← List.append_assoc, lane, step1.stray] at settled
    have events : r.events = (x.settle f.number f.start l).events := rfl
    have scheduled := x.select_scheduled (x.settle f.number f.start l).lane
    rw [settled] at events scheduled
    have built : r.lane = x.fillFrame f (x.settle f.number f.start l).lane := rfl
    obtain ⟨content, selected⟩ : ∃ c, c = (x.select (x.settle f.number f.start l).lane).1 := ⟨_, rfl⟩
    rw [settled] at built selected
    clear_value stack3
    have raised : u = true → b = true := fun set => by
      show (topKind stack3 == some .bulletin || topKind stack3 == some .urgent) = true
      rw [show (topKind stack3 == some LevelKind.urgent) = true from set, Bool.or_true]
    by_cases head : f.position = 0
    · have fill (m : Lane) : x.fillFrame f m = { m with inBuild := some (x.headFrame f m.prevB m.prevU m.sequence), lastBuilt := f.number } := by
        rw [Store.fillFrame, if_pos head]
      rw [fill] at built
      have is := x.headFrame_is f b u (applied due.length).sequence
      obtain ⟨traffic, bBit, uBit⟩ := frameIs_flags is
      refine ⟨x.headFrame f b u (applied due.length).sequence, _, _, bAudio, uAudio, events, ?_, ?_⟩
      · rw [if_pos head]
        exact ⟨built, is⟩
      · rw [built]
        exact ⟨rfl, rfl, traffic, bBit, uBit, fun set => bBit.trans (raised (uBit.symm.trans set))⟩
    · have fill (m : Lane) : x.fillFrame f m = { (x.select m).2 with
          inBuild := some (x.contentFrame f (x.select m).2.prevB (x.select m).2.prevU (x.select m).1), lastBuilt := f.number } := by
        rw [Store.fillFrame, if_neg head]
      rw [fill, scheduled.prevB, scheduled.prevU, ← selected] at built
      have is := x.contentFrame_is f b u content
      obtain ⟨_, -, words⟩ := id is
      obtain ⟨traffic, bBit, uBit⟩ := frameIs_flags words
      refine ⟨x.contentFrame f b u content, _, _, bAudio, uAudio, events, ?_, ?_⟩
      · rw [if_neg head]
        exact ⟨built, selected ▸ is⟩
      · rw [built]
        refine ⟨rfl, rfl, traffic, bBit.trans ?_, uBit.trans ?_, fun set => bBit.trans (raised (uBit.symm.trans set))⟩
        · exact (congrArg (fun k => k == some LevelKind.bulletin || k == some LevelKind.urgent) scheduled.topKind).symm
        · exact (congrArg (fun k => k == some LevelKind.urgent) scheduled.topKind).symm
  · intro fr f line tb
    refine ⟨by rw [State.bitClock, line]; rfl, fun i within from_ upTo => ?_⟩
    have period : sdiff s.clock f.start / Config.bitMicros = i := by
      have bit : Config.bitMicros = 625 := rfl
      rw [bit]
      omega
    have low : (0 : Int) ≤ i := Int.natCast_nonneg i
    have high : (i : Int) < 128 := by omega
    rw [State.laneLevel, State.bitPeriod, line, tb]
    simp [period, low, high]
  · intro idle
    rw [State.laneLevel, State.bitClock, idle]
    exact ⟨rfl, rfl⟩

end Sys2Proof.Safety
end

section
/-! PROOF. The lanes taken one after another inside a step (assumption 2), at a build instant and at a line start. -/

namespace Sys2Proof.Machine

open Safety

/-! ### The order of the lanes -/

theorem nodup_orderOf (order : List LaneNo) : (orderOf order).Nodup := by
  unfold orderOf
  split
  · next names =>
    obtain ⟨length, all⟩ := names
    have every : laneNumbers ⊆ order := fun n listed => by simpa using List.all_eq_true.1 all n listed
    have perm : laneNumbers.Perm order :=
      (List.subperm_of_subset (by decide) every).perm_of_length_le (by rw [length]; decide)
    exact perm.nodup_iff.1 (by decide)
  · decide

theorem mem_orderOf (order : List LaneNo) (n : LaneNo) : n ∈ orderOf order := by
  unfold orderOf
  split
  · next names => simpa using List.all_eq_true.1 names.2 n (mem_laneNumbers n)
  · exact mem_laneNumbers n

/-! ### One lane after another -/

/-- Lane `n` becomes what `a` makes of it, and its events latch. -/
def State.settleLane (a : LaneNo → Lane → Settled) (s : State) (n : LaneNo) : State :=
  (s.putLane n (a n s.lanes[n]).lane).latchAll (a n s.lanes[n]).events

/-- The lanes of `order` become what `a` makes of them, one after another. -/
def State.settleLanes (a : LaneNo → Lane → Settled) (order : List LaneNo) (s : State) : State := order.foldl (State.settleLane a) s

section

variable (a : LaneNo → Lane → Settled)

theorem State.settleLane_eq (s : State) (n : LaneNo) :
    s.settleLane a n = (s.putLane n (a n s.lanes[n]).lane).putAnswers (s.latchAll (a n s.lanes[n]).events).answers :=
  State.latchAll_of_same (s := s) (t := s.putLane n (a n s.lanes[n]).lane) rfl rfl _

theorem State.settleLane_lane (s : State) (n m : LaneNo) :
    (s.settleLane a n).lanes[m] = if m = n then (a n s.lanes[n]).lane else s.lanes[m] := by
  rw [State.settleLane_eq]
  exact s.putLane_lane n m _

/-- Each lane named is settled from what it was before. -/
theorem State.settleLanes_lane (order : List LaneNo) (once : order.Nodup) (s : State) (n : LaneNo) :
    (s.settleLanes a order).lanes[n] = if n ∈ order then (a n s.lanes[n]).lane else s.lanes[n] := by
  induction order generalizing s with
  | nil => rfl
  | cons m order ih =>
    obtain ⟨new, once⟩ := List.nodup_cons.1 once
    rw [show s.settleLanes a (m :: order) = (s.settleLane a m).settleLanes a order from rfl, ih once, State.settleLane_lane]
    by_cases this : n = m
    · subst this
      simp [new]
    · simp [this]

/-- Settling the lanes changes the lanes, and the answer unit by their latches. -/
theorem State.settleLanes_eq (order : List LaneNo) (once : order.Nodup) (s : State) :
    s.settleLanes a order = (s.putLanes (s.settleLanes a order).lanes).putAnswers
      (s.latchAll (order.flatMap fun n => (a n s.lanes[n]).events)).answers := by
  induction order generalizing s with
  | nil => rfl
  | cons m order ih =>
    obtain ⟨new, once⟩ := List.nodup_cons.1 once
    have untouched : (order.flatMap fun n => (a n (s.settleLane a m).lanes[n]).events) = order.flatMap fun n => (a n s.lanes[n]).events :=
      List.flatMap_congr fun n listed => by
        rw [State.settleLane_lane, if_neg fun same : n = m => new (same ▸ listed)]
    have first := State.settleLane_eq a s m
    have rest := ih once (s.settleLane a m)
    have unit : ((s.settleLane a m).latchAll (order.flatMap fun n => (a n s.lanes[n]).events)).answers =
        (s.latchAll ((m :: order).flatMap fun n => (a n s.lanes[n]).events)).answers := by
      rw [State.latchAll_of_same (s := s.latchAll (a m s.lanes[m]).events) (t := s.settleLane a m) (by rw [first]; simp) (by rw [first]; rfl),
        List.flatMap_cons, State.latchAll, State.latchAll, State.latchAll, List.foldl_append]
      rfl
    rw [untouched, unit] at rest
    rw [show s.settleLanes a (m :: order) = (s.settleLane a m).settleLanes a order from rfl]
    refine rest.trans ?_
    rw [first]
    rfl

end

/-- `t` has the tables, the titles and the timebase of `s`. -/
structure SameStores (s t : State) : Prop where
  tables : t.tables = s.tables
  titles : t.titles = s.titles
  timebase : t.timebase = s.timebase

theorem SameStores.settleLane {a : LaneNo → Lane → Settled} {s t : State} (h : SameStores s t) (n : LaneNo) : SameStores s (t.settleLane a n) := by
  rw [State.settleLane_eq]
  exact ⟨h.tables, h.titles, h.timebase⟩

theorem SameStores.settleLanes {a : LaneNo → Lane → Settled} {s t : State} (h : SameStores s t) (order : List LaneNo) :
    SameStores s (t.settleLanes a order) :=
  List.foldlRecOn (motive := SameStores s) order _ h fun _ h n _ => h.settleLane n

theorem SameStores.fireHold {s t : State} (h : SameStores s t) : SameStores s t.fireHold := by
  unfold State.fireHold
  split
  · exact ⟨h.tables, h.titles, h.timebase⟩
  · exact h

theorem SameStores.store {s t : State} (h : SameStores s t) (n : LaneNo) : t.store n = s.store n := by
  rw [State.store, h.tables, h.titles]
  rfl

/-- A step that settles its lane, by the tables, the titles and the timebase alone, settles the lanes one after another. -/
theorem foldl_settles {a : LaneNo → Lane → Settled} {s t : State} {act : State → LaneNo → State}
    (settles : ∀ {u : State} (n : LaneNo), SameStores s u → act u n = u.settleLane a n) (h : SameStores s t) (order : List LaneNo) :
    order.foldl act t = t.settleLanes a order := by
  induction order generalizing t with
  | nil => rfl
  | cons m order ih =>
    rw [List.foldl_cons, settles m h]
    exact ih (h.settleLane m)

/-! ### A build instant -/

theorem State.laneBuilds (s : State) (f : LineFrame) (order : List LaneNo) :
    order.foldl (fun t n => t.laneBuild f n) s =
      s.settleLanes (fun n => (s.store n).atBuild f s.timebase.mode.onGrid) order :=
  foldl_settles (s := s) (fun {u} n same => by
    rw [State.laneBuild_eq, same.store, same.timebase]
    rfl) ⟨rfl, rfl, rfl⟩ order

/-- An early build, lane by lane. -/
theorem State.earlyBuildAt_eq (s : State) (start : Micros) (order : List LaneNo) :
    s.earlyBuildAt start order =
      (s.putTimebase ({ s.timebase with earlyFor := none, counts := some { s.timebase.nextCounts with position := 0 } }.produce start)).settleLanes
        (fun n => (s.store n).atBuild { number := s.timebase.nextCounts.number, position := 0, start := start, cycle := s.timebase.nextCounts.cycle }
          s.timebase.mode.onGrid) (orderOf order) :=
  State.laneBuilds _ _ _

theorem Store.atBuild_waiting (x : Store) (f : LineFrame) (onGrid : Bool) {l : Lane} (h : l.mode = .waiting) :
    x.atBuild f onGrid l = { lane := if f.position = 0 ∧ onGrid = true ∧ l.inBuild = none ∧ x.entry.station ≠ 0 then x.joinBuild f l else l
                             events := [] } := by
  rw [Store.atBuild, h]

/-- A WAITING lane that makes its join build. -/
theorem Store.atBuild_joins {x : Store} {f : LineFrame} {onGrid : Bool} {l : Lane} (waiting : l.mode = .waiting)
    (joins : f.position = 0 ∧ onGrid = true ∧ l.inBuild = none ∧ x.entry.station ≠ 0) : (x.atBuild f onGrid l).lane = x.joinBuild f l := by
  rw [Store.atBuild_waiting _ _ _ waiting, if_pos joins]

/-- A WAITING lane that makes none. -/
theorem Store.atBuild_waits {x : Store} {f : LineFrame} {onGrid : Bool} {l : Lane} (waiting : l.mode = .waiting)
    (waits : ¬(f.position = 0 ∧ onGrid = true ∧ l.inBuild = none ∧ x.entry.station ≠ 0)) : (x.atBuild f onGrid l).lane = l := by
  rw [Store.atBuild_waiting _ _ _ waiting, if_neg waits]

theorem Store.atBuild_off (x : Store) (f : LineFrame) (onGrid : Bool) {l : Lane} (h : l.mode = .off) :
    x.atBuild f onGrid l = { lane := l, events := [] } := by
  rw [Store.atBuild, h]

theorem Store.atBuild_events (x : Store) (f : LineFrame) (onGrid : Bool) (l : Lane) :
    (x.atBuild f onGrid l).events = if l.mode = .onAir then (x.build f l).events else [] := by
  unfold Store.atBuild
  cases l.mode <;> rfl

theorem Store.build_inBuild (x : Store) (f : LineFrame) (l : Lane) : ∃ fr, (x.build f l).lane.inBuild = some fr ∧ fr.number = f.number := by
  obtain ⟨fr, m, number, -, e⟩ := x.build_frame f l
  exact ⟨fr, by rw [e], number⟩

theorem Store.build_lastBuilt (x : Store) (f : LineFrame) (l : Lane) : (x.build f l).lane.lastBuilt = f.number := by
  obtain ⟨fr, m, -, -, e⟩ := x.build_frame f l
  rw [e]

theorem onGrid_iff (m : TbMode) : m.onGrid = true ↔ m = .running ∨ m = .holdover := by
  cases m <;> simp [TbMode.onGrid]

end Sys2Proof.Machine

namespace Sys2Proof.Safety

open Machine

/-- A listed event of a lane that is settled has its latch set. -/
theorem latchAll_flatMap {s : State} {order : List LaneNo} {events : LaneNo → List Event} {n : LaneNo} (named : n ∈ order) {e : Event}
    (fell : e ∈ events n) : (s.latchAll (order.flatMap events)).latched e = true :=
  State.latchAll_self (List.mem_flatMap.2 ⟨n, named, fell⟩)

/-- What an early build leaves. -/
structure EarlyBuilt (s : State) (start : Micros) (order : List LaneNo) (f : LineFrame) (t : State) : Prop where
  frame : t = { s with
    lanes := t.lanes
    timebase := { s.timebase with
      earlyFor := none, built := some f, counts := some { number := f.number + 1, position := 1, cycle := f.cycle + 1 } }
    answers := (s.latchAll ((orderOf order).flatMap fun n => ((s.store n).atBuild f s.timebase.mode.onGrid s.lanes[n]).events)).answers }
  lane : ∀ n : LaneNo, t.lanes[n] = ((s.store n).atBuild f s.timebase.mode.onGrid s.lanes[n]).lane

theorem latchAll_answers {s t : State} (site : t.siteAddress = s.siteAddress) (unit : t.answers = s.answers) (l : List Event) :
    (t.latchAll l).answers = (s.latchAll l).answers := by
  rw [State.latchAll_of_same site unit]
  rfl

theorem earlyBuilt (s : State) (start : Micros) (order : List LaneNo) :
    EarlyBuilt s start order
      { number := s.timebase.nextCounts.number, position := 0, start := start, cycle := s.timebase.nextCounts.cycle } (s.earlyBuildAt start order) := by
  rw [State.earlyBuildAt_eq]
  refine ⟨?_, fun n => ?_⟩
  · refine (State.settleLanes_eq _ _ (nodup_orderOf order) _).trans ?_
    exact congrArg (State.putAnswers _) (latchAll_answers (s := s) (by rfl) (by rfl) _)
  · rw [State.settleLanes_lane _ _ (nodup_orderOf order), if_pos (mem_orderOf order n)]
    rfl

theorem clockTo_store (s : State) (c : Micros) (n : LaneNo) : (s.clockTo c).store n = s.store n := by simp [State.store]

theorem clockTo_latchAll (s : State) (c : Micros) (l : List Event) : ((s.clockTo c).latchAll l).answers = (s.latchAll l).answers :=
  latchAll_answers (by simp) (by simp) l

/-- The end of a frame that no line start follows changes the lanes, the timebase and, at a stop, the SYNC line. -/
theorem endFinalFrame_frame (s : State) :
    s.endFinalFrame = { s with
      lanes := s.endFinalFrame.lanes
      timebase := if s.timebase.stopPending then { Timebase.reset with divisorCount := s.timebase.divisorCount }
        else { s.timebase with onLine := none, lastOfGrid := false }
      sync := if s.timebase.stopPending then { s.sync with pulseAt := none } else s.sync } := by
  unfold State.endFinalFrame
  cases s.timebase.stopPending <;> rfl

theorem endFinalFrame_lane (s : State) (n : LaneNo) : s.endFinalFrame.lanes[n] = s.lanes[n].finalEnd s.timebase.stopPending := by
  refine Eq.trans ?_ (State.mapLanes_lane s _ n)
  unfold State.endFinalFrame
  cases s.timebase.stopPending <;> rfl

theorem finalEnd_eq (l : Lane) (stops : Bool) : l.finalEnd stops = match l.mode with
    | .off => l
    | .waiting => { l with inBuild := if stops then none else l.inBuild }
    | .onAir =>
      if l.stop = .none then { l with onLine := none, inBuild := if stops then none else l.inBuild }
      else cleared l (l.stop == .toOff) := by
  cases l with
  | mk mode =>
    cases mode with
    | off => rfl
    | waiting => cases stops <;> rfl
    | onAir => rfl

/-- Settles O42. -/
theorem gridEdgeResults : Obligations.GridEdgeResults := by
  refine ⟨fun order s c early => ?_, fun s f line last => ?_⟩
  · intro counts f built
    have instant : s.earlyBuild order = (s.clockTo (c - 80000)).earlyBuildAt c order := by
      rw [State.earlyBuild, early]
      rfl
    have result := earlyBuilt (s.clockTo (c - 80000)) c order
    rw [← instant] at result
    obtain ⟨frame, lane⟩ := result
    simp only [State.clockTo_timebase, State.clockTo_lanes, clockTo_store, clockTo_latchAll] at frame lane
    have events : ((orderOf order).flatMap fun n => ((s.store n).atBuild f s.timebase.mode.onGrid s.lanes[n]).events) =
        (orderOf order).flatMap fun n => if s.lanes[n].mode = .onAir then (built n).events else [] :=
      List.flatMap_congr fun n _ => Store.atBuild_events _ _ _ _
    refine ⟨s.earlyBuild order, rfl, ?_, fun n => ⟨fun onAir => ?_, fun waiting => ?_, fun off => ?_⟩⟩
    · rw [← events]
      exact frame
    · have builds := lane n
      rw [Store.atBuild_onAir _ _ _ onAir] at builds
      obtain ⟨fr, inBuild, number⟩ := (s.store n).build_inBuild f s.lanes[n]
      refine ⟨builds, by rw [builds, Store.build_mode, onAir], by rw [builds, Store.build_onLine], ⟨fr, by rw [builds, inBuild], number⟩, ?_⟩
      intro e fell
      rw [State.latched, frame]
      refine latchAll_flatMap (s := s) (mem_orderOf order n) ?_
      rw [Store.atBuild_onAir _ _ _ onAir]
      exact fell
    · rw [lane n]
      split
      · next joins =>
        obtain ⟨grid, none, station⟩ := joins
        exact ⟨_, Store.atBuild_joins waiting ⟨rfl, (onGrid_iff _).2 grid, none, station⟩, Store.headFrame_is _ _ _ _ _⟩
      · next waits =>
        exact Store.atBuild_waits waiting fun joins => waits ⟨(onGrid_iff _).1 joins.2.1, joins.2.2⟩
    · rw [lane n, Store.atBuild_off _ _ _ off]
  · have instant : s.finalFrameEnd = (s.clockTo (f.start + 80000)).endFinalFrame := by
      rw [State.finalFrameEnd, line]
      exact if_pos last
    intro stops
    refine ⟨s.finalFrameEnd, rfl, ?_, fun n => ?_⟩
    · rw [instant, endFinalFrame_frame]
      simp only [State.clockTo_timebase, State.clockTo_sync]
      rfl
    · rw [instant, endFinalFrame_lane, State.clockTo_lanes, State.clockTo_timebase]
      exact finalEnd_eq s.lanes[n] stops

/-- The timebase of a part that START AIR has running, with the frame built for its first line start (R117). -/
def firstBuilt (start : Micros) : Timebase :=
  { Timebase.reset with
    mode := .running, counts := some { number := 1, position := 1, cycle := 1 }
    built := some { number := 0, position := 0, start := start, cycle := 0 } }

/-- What START AIR leaves of a STOPPED part that is no FOLLOWER: its first frame is in build (R12, R117). -/
structure AirStarted (s t : State) : Prop where
  frame : t = { s with lanes := t.lanes, timebase := firstBuilt (s.clock + 80000) }
  lane : ∀ n : LaneNo,
    if s.lanes[n].mode = .waiting ∧ s.lanes[n].inBuild = none ∧ s.tables.lane[n].station ≠ 0 then
      ∃ fr, t.lanes[n] = { s.lanes[n] with inBuild := some fr, lastBuilt := 0 } ∧
        HeadIs (s.store n) { number := 0, position := 0, start := s.clock + 80000, cycle := 0 } fr false false 0
    else t.lanes[n] = s.lanes[n]

theorem startAir_runs {s : State} (stopped : s.timebase.mode = .stopped) (role : s.tables.site.role ≠ .follower)
    (off : ∀ n : LaneNo, s.lanes[n].mode ≠ .onAir) : AirStarted s s.startAir := by
  have starts : s.startAir = (s.putTimebase { Timebase.reset with mode := .running }).earlyBuildAt (s.clock + 80000) laneNumbers := by
    rw [State.startAir, if_pos stopped]
    cases given : s.tables.site.role with
    | follower => exact absurd given role
    | alone => rfl
    | master => rfl
  obtain ⟨frame, lane⟩ := earlyBuilt (s.putTimebase { Timebase.reset with mode := .running }) (s.clock + 80000) laneNumbers
  rw [← starts] at frame lane
  refine ⟨?_, fun n => ?_⟩
  · have quiet : ((orderOf laneNumbers).flatMap fun n => ((s.store n).atBuild { number := 0, position := 0, start := s.clock + 80000, cycle := 0 }
        true s.lanes[n]).events) = [] :=
      List.flatMap_eq_nil_iff.2 fun n _ => by rw [Store.atBuild_events, if_neg (off n)]
    refine frame.trans ?_
    exact congrArg (fun l => { s with
      lanes := s.startAir.lanes, timebase := firstBuilt (s.clock + 80000)
      answers := ((s.putTimebase { Timebase.reset with mode := .running }).latchAll l).answers }) quiet
  · rw [lane n]
    split
    · next joins =>
      obtain ⟨waiting, empty, station⟩ := joins
      exact ⟨_, Store.atBuild_joins waiting ⟨rfl, rfl, empty, station⟩, Store.headFrame_is _ _ _ _ _⟩
    · next waits =>
      cases mode : s.lanes[n].mode with
      | off => exact congrArg Settled.lane (Store.atBuild_off _ _ _ mode)
      | waiting => exact Store.atBuild_waits mode fun joins => waits ⟨mode, joins.2.2⟩
      | onAir => exact absurd mode (off n)

/-- An answer joins the queue of what else is as before. -/
theorem answered_frame (s : State) (o : OrderMsg) (x : Result) (d : List Byte) :
    answered s o x d = s.putAnswers (answered s o x d).answers := by
  unfold answered
  split <;> rfl

/-- Settles O17. -/
theorem startAirResult : Obligations.StartAirResult := by
  intro o s none taken
  have refusal : firstRefusal [refuseArgs o.args] = .none := by rw [none]; rfl
  have run (t : State) (site : t.siteAddress = s.siteAddress) (queue : t.answers.queue = s.answers.queue)
      (starts : (s.clockAt o.time).startAir = t) : exec (.startAir o) s = .next (answered t o .done []) :=
    taken.ends (c := .startAir) (run := orderStartAir) rfl ((State.unlessRefused_none refusal _ _).trans (by rw [starts])) site queue
  refine ⟨fun going => ?_, fun stopped role => ?_, fun stopped role off => ?_⟩
  · exact run _ rfl rfl (if_neg going)
  · refine run _ rfl rfl ((if_pos stopped).trans ?_)
    rw [State.clockAt_tables, role]
  · intro first
    have started := startAir_runs (s := s.clockAt o.time) stopped role off
    refine ⟨answered (s.clockAt o.time).startAir o .done [], run _ ?_ ?_ rfl, ?_, fun n => ?_⟩
    · rw [started.frame]
      rfl
    · rw [started.frame]
      rfl
    · rw [answered_lanes]
      exact (congrArg (fun u => answered u o .done []) started.frame).trans
        (answered_air (s.clockAt o.time) _ (firstBuilt ((s.clockAt o.time).clock + 80000)) s.sync o .done [])
    · rw [answered_lanes]
      exact started.lane n

end Sys2Proof.Safety
end

section
/-! PROOF. A line start whole (R9, R12, R71, R107, R115, R116, R119). -/

namespace Sys2Proof.Machine

open Safety

/-! ### The lanes at a line start, with a hold firing among them -/

theorem State.laneLineStarts {s t : State} (same : SameStores s t) (f : LineFrame) (order : List LaneNo) :
    order.foldl (fun u n => u.laneLineStart f n) t =
      t.settleLanes (fun n => (s.store n).atLineStart f s.timebase.mode.onGrid) order :=
  foldl_settles (fun {u} n same => by
    rw [State.laneLineStart_eq, same.store, same.timebase]
    rfl) same order

/-- The hold fires, or not, between the lanes of `early` and those of `late`. -/
def State.settleFired (a : LaneNo → Lane → Settled) (early late : List LaneNo) (h : Hold) (fires : Bool) (s : State) : State :=
  (((s.settleLanes a early).putHold h).mapLanes (Lane.heldBy fires)).settleLanes a late

section

variable (a : LaneNo → Lane → Settled) {early late : List LaneNo} (once : (early ++ late).Nodup) (h : Hold) (fires : Bool) (s : State)

include once

/-- A lane before the firing is settled, then held; one after it is held, then settled. -/
theorem State.settleFired_lane (n : LaneNo) (named : n ∈ early ++ late) :
    (s.settleFired a early late h fires).lanes[n] =
      held (a n (held s.lanes[n] (fires && !early.contains n))).lane (fires && early.contains n) := by
  obtain ⟨onceEarly, onceLate, apart⟩ := List.nodup_append.1 once
  have mid : (((s.settleLanes a early).putHold h).mapLanes (Lane.heldBy fires)).lanes[n] =
      held (if n ∈ early then (a n s.lanes[n]).lane else s.lanes[n]) fires := by
    rw [State.mapLanes_lane, heldBy_eq_held]
    exact congrArg (fun l => held l fires) (State.settleLanes_lane a early onceEarly s n)
  rw [State.settleFired, State.settleLanes_lane a late onceLate, mid]
  by_cases first : n ∈ early
  · have other : n ∉ late := fun second => apart n first n second rfl
    have listed : early.contains n = true := by simpa using first
    rw [if_neg other, if_pos first, listed, Bool.not_true, Bool.and_false, Bool.and_true, held_false]
  · have second : n ∈ late := (List.mem_append.1 named).resolve_left first
    have unlisted : early.contains n = false := by simpa using first
    rw [if_pos second, if_neg first, unlisted, Bool.not_false, Bool.and_true, Bool.and_false, held_false]

/-- Settling the lanes with a firing among them changes the lanes, the hold, and the answer unit by their latches. -/
theorem State.settleFired_eq :
    s.settleFired a early late h fires = (((s.putHold h).putLanes (s.settleFired a early late h fires).lanes)).putAnswers
      (s.latchAll ((early ++ late).flatMap fun n => (a n (held s.lanes[n] (fires && !early.contains n))).events)).answers := by
  obtain ⟨onceEarly, onceLate, apart⟩ := List.nodup_append.1 once
  have first := State.settleLanes_eq a early onceEarly s
  have before : (early.flatMap fun n => (a n s.lanes[n]).events) =
      early.flatMap fun n => (a n (held s.lanes[n] (fires && !early.contains n))).events :=
    List.flatMap_congr fun n listed => by
      rw [show early.contains n = true by simpa using listed, Bool.not_true, Bool.and_false, held_false]
  have after : (late.flatMap fun n => (a n (((s.settleLanes a early).putHold h).mapLanes (Lane.heldBy fires)).lanes[n]).events) =
      late.flatMap fun n => (a n (held s.lanes[n] (fires && !early.contains n))).events :=
    List.flatMap_congr fun n listed => by
      have other : n ∉ early := fun earlier => apart n earlier n listed rfl
      have lane : ((s.settleLanes a early).putHold h).lanes[n] = s.lanes[n] :=
        (State.settleLanes_lane a early onceEarly s n).trans (if_neg other)
      rw [State.mapLanes_lane, heldBy_eq_held, lane, show early.contains n = false by simpa using other, Bool.not_false, Bool.and_true]
  have unit : (s.settleLanes a early).answers =
      (s.latchAll (early.flatMap fun n => (a n (held s.lanes[n] (fires && !early.contains n))).events)).answers := by
    rw [first, before]
    rfl
  have site : (s.settleLanes a early).siteAddress = s.siteAddress := by
    rw [first]
    rfl
  have second := State.settleLanes_eq a late onceLate (((s.settleLanes a early).putHold h).mapLanes (Lane.heldBy fires))
  rw [after, latchAll_answers
    (s := s.latchAll (early.flatMap fun n => (a n (held s.lanes[n] (fires && !early.contains n))).events))
    (t := ((s.settleLanes a early).putHold h).mapLanes (Lane.heldBy fires)) (by simpa using site) unit] at second
  rw [State.settleFired]
  refine second.trans ?_
  rw [List.flatMap_append, State.latchAll, State.latchAll, State.latchAll, List.foldl_append]
  generalize ((((s.settleLanes a early).putHold h).mapLanes (Lane.heldBy fires)).settleLanes a late).lanes = v
  rw [first]
  rfl

end

/-- The hold after it has fired, if it does. -/
def firedHold (h : Hold) (fires : Bool) : Hold := if fires then { h with fired := true, due := false } else h

theorem State.fireHold_fires (s : State) : s.fireHold = (s.putHold (firedHold s.hold s.hold.due)).mapLanes (Lane.heldBy s.hold.due) := by
  unfold State.fireHold firedHold
  cases s.hold.due with
  | false => exact (mapLanes_heldBy_false s).symm
  | true => rfl

/-- The lanes at a line start, the firing after as many as the operand says. -/
theorem State.lanesAtLineStart_eq (s : State) (f : LineFrame) (fire : Option Nat) (order : List LaneNo) (once : order.Nodup) :
    s.lanesAtLineStart f fire order =
      s.settleFired (fun n => (s.store n).atLineStart f s.timebase.mode.onGrid) (order.take (fire.getD 0)) (order.drop (fire.getD 0))
        (firedHold s.hold (fire.isSome && s.hold.due)) (fire.isSome && s.hold.due) := by
  unfold State.lanesAtLineStart State.settleFired
  cases fire with
  | none =>
    have still : (s.putHold s.hold).mapLanes (Lane.heldBy false) = s := mapLanes_heldBy_false s
    exact (s.laneLineStarts ⟨rfl, rfl, rfl⟩ f order).trans (congrArg (State.settleLanes _ order) still.symm)
  | some k =>
    have same : SameStores s s := ⟨rfl, rfl, rfl⟩
    dsimp only
    rw [s.laneLineStarts same]
    have hold : (s.settleLanes (fun n => (s.store n).atLineStart f s.timebase.mode.onGrid) (order.take k)).hold = s.hold := by
      rw [State.settleLanes_eq _ _ (once.sublist (List.take_sublist k order))]
      rfl
    rw [State.laneLineStarts (same.settleLanes _).fireHold, State.fireHold_fires, hold]
    rfl

/-! ### A cycle start -/

theorem Hold.cycleStart_eq (h : Hold) (limit : Nat) :
    h.cycleStart limit = if h.episode = true ∧ h.fired = false ∧ h.due = false then
        { h with count := h.count + 1, due := decide (limit ≤ h.count + 1) }
      else h := by
  unfold Hold.cycleStart
  simp only [Bool.and_eq_true, Bool.not_eq_true', and_assoc]

theorem ticks_eq (n : Nat) : ticks n = BitVec.ofNat 32 (n * 5000) := by
  have whole : (n * Config.tickMicros : Int) = ((n * 5000 : Nat) : Int) := by simp [Config.tickMicros]
  rw [ticks, whole, micros, BitVec.ofInt_natCast]

theorem micros_bits (n : Nat) : micros (n * Config.bitMicros) = BitVec.ofNat 32 (n * 625) := by
  have whole : (n * Config.bitMicros : Int) = ((n * 625 : Nat) : Int) := by simp [Config.bitMicros]
  rw [whole, micros, BitVec.ofInt_natCast]

theorem CueLine.cycleStart_eq (c : CueLine) (e : CueEntry) (t : Micros) :
    c.cycleStart e t = if e.mode = .repeating ∧ e.edge ≠ .finish ∧ c.followed = true ∧ c.train = .idle then started c e t else c := by
  have train : c.startTrain e t = started c e t := by
    rw [CueLine.startTrain, started, ticks_eq]
  unfold CueLine.cycleStart CueLine.startIfIdle
  rw [train]
  by_cases follows : e.mode = .repeating ∧ e.edge ≠ .finish ∧ c.followed = true
  · rw [if_pos follows]
    refine if_congr ?_ rfl rfl
    exact ⟨fun idle => ⟨follows.1, follows.2.1, follows.2.2, idle⟩, fun all => all.2.2.2⟩
  · rw [if_neg follows, if_neg fun all => follows ⟨all.1, all.2.1, all.2.2.1⟩]

/-- A cycle start reaches the hold count, the cue lines and the master; a line start that is none leaves them (R71, R107, R119). -/
theorem State.cycleStart_eq (s : State) (f : LineFrame) {cycle : Prop} [Decidable cycle]
    (iff : cycle ↔ f.position = 0 ∧ s.timebase.mode.onGrid = true) :
    s.cycleStart f = { s with
      lanes := (s.cycleStart f).lanes
      hold := if cycle ∧ s.hold.episode = true ∧ s.hold.fired = false ∧ s.hold.due = false then
          { s.hold with count := s.hold.count + 1, due := decide (s.tables.site.holdLimit ≤ s.hold.count + 1) }
        else s.hold
      timebase := { s.timebase with
        divisorCount := if cycle ∧ s.tables.site.role = .master then
            (if s.tables.site.divisor ≤ s.timebase.divisorCount + 1 then 0 else s.timebase.divisorCount + 1)
          else s.timebase.divisorCount }
      sync := if (cycle ∧ s.tables.site.role = .master) ∧ s.timebase.divisorCount = 0 then
          { s.sync with pulseAt := some (f.start + BitVec.ofNat 32 (s.tables.site.outOffset * 625)) }
        else s.sync } := by
  unfold State.cycleStart
  by_cases at' : cycle
  · simp only [if_pos (iff.1 at'), at', true_and]
    rw [State.masterCycleStart, ← Hold.cycleStart_eq, ← micros_bits]
    by_cases master : s.tables.site.role = .master
    · by_cases zero : s.timebase.divisorCount = 0 <;> simp [State.cueCycleStart, master, zero] <;> rfl
    · simp [State.cueCycleStart, master]
      rfl
  · rw [if_neg fun c => at' (iff.2 c)]
    simp only [at', false_and, if_false]

theorem State.cycleStart_lane (s : State) (f : LineFrame) (n : LaneNo) {cycle : Prop} [Decidable cycle]
    (iff : cycle ↔ f.position = 0 ∧ s.timebase.mode.onGrid = true) :
    (s.cycleStart f).lanes[n] = { s.lanes[n] with
      cue := if cycle ∧ s.tables.cueLines[n].mode = .repeating ∧ s.tables.cueLines[n].edge ≠ .finish ∧ s.lanes[n].cue.followed = true ∧
          s.lanes[n].cue.train = .idle then
        started s.lanes[n].cue s.tables.cueLines[n] f.start
      else s.lanes[n].cue } := by
  have master (u : State) : (u.masterCycleStart f.start).lanes = u.lanes := by
    unfold State.masterCycleStart
    split
    · split <;> rfl
    · rfl
  unfold State.cycleStart
  by_cases at' : cycle
  · rw [if_pos (iff.1 at'), master, State.cueCycleStart_lane, CueLine.cycleStart_eq]
    simp only [at', true_and]
    rfl
  · rw [if_neg fun c => at' (iff.2 c), if_neg fun c => at' c.1]

/-! ### One lane at a line start -/

/-- A lane that is on the line from a line start on: the lane that then builds, none for one that stays off it (R9, R12). -/
def Lane.goesOn (l : Lane) (fires : Bool) : Option Lane :=
  match l.mode with
  | .off => none
  | .waiting => if l.inBuild = none then none else some l.join
  | .onAir => if l.stop ≠ .none then none else some (held l fires).toLine

theorem held_offAir {l : Lane} (off : l.mode ≠ .onAir) (fires : Bool) : held l fires = l := by
  have mode : (l.mode == .onAir) = false := beq_eq_false_iff_ne.2 off
  simp [held, mode]

theorem Store.atLineStart_goes (x : Store) (f : LineFrame) (onGrid fires : Bool) {l m : Lane} (goes : l.goesOn fires = some m) :
    x.atLineStart f onGrid (held l fires) = x.build f m ∧ m.mode = .onAir ∧ m.onLine = l.inBuild := by
  unfold Lane.goesOn at goes
  cases mode : l.mode with
  | off =>
    rw [mode] at goes
    cases goes
  | waiting =>
    rw [mode] at goes
    dsimp only at goes
    split at goes
    · cases goes
    · next some =>
      cases goes
      rw [held_offAir (by rw [mode]; decide)]
      refine ⟨?_, rfl, rfl⟩
      rw [Store.atLineStart, mode]
      exact if_pos (Option.isSome_iff_ne_none.2 some)
  | onAir =>
    rw [mode] at goes
    dsimp only at goes
    split at goes
    · cases goes
    · next none =>
      cases goes
      have same : (held l fires).mode = .onAir := mode
      refine ⟨?_, mode, rfl⟩
      rw [Store.atLineStart, same]
      exact if_pos (not_not.1 none)

/-- What a line start leaves of a lane that stays off the line, whether a hold fires before it or after: it latches nothing. -/
structure StaysOff (x : Store) (f : LineFrame) (onGrid : Bool) (l : Lane) (r : Settled) (later : Bool) : Prop where
  events : r.events = []
  off : l.mode = .off → held r.lane later = l
  waiting : l.mode = .waiting → held r.lane later = (x.atBuild f onGrid l).lane
  onAir : l.mode = .onAir → held r.lane later = cleared l (l.stop == .toOff)

theorem Store.atLineStart_stays (x : Store) (f : LineFrame) (onGrid fires later : Bool) {l : Lane} (stays : l.goesOn fires = none) :
    StaysOff x f onGrid l (x.atLineStart f onGrid (held l fires)) later := by
  unfold Lane.goesOn at stays
  cases mode : l.mode with
  | off =>
    have off : l.mode ≠ .onAir := by rw [mode]; decide
    have result : x.atLineStart f onGrid l = { lane := l, events := [] } := by rw [Store.atLineStart, mode]
    rw [held_offAir off, result]
    exact ⟨rfl, fun _ => held_offAir off later, fun waiting => absurd (mode.symm.trans waiting) nofun, fun onAir => absurd onAir off⟩
  | waiting =>
    rw [mode] at stays
    have off : l.mode ≠ .onAir := by rw [mode]; decide
    have empty : l.inBuild = none := by
      by_contra some
      rw [if_neg some] at stays
      cases stays
    have result : x.atLineStart f onGrid l = x.atBuild f onGrid l := by
      rw [Store.atLineStart, mode]
      exact if_neg (by rw [empty]; decide)
    have still : (x.atBuild f onGrid l).lane.mode ≠ .onAir := by
      rw [Store.atBuild_waiting _ _ _ mode]
      dsimp only
      split <;> exact off
    rw [held_offAir off, result]
    exact ⟨by rw [Store.atBuild_events, if_neg off], fun off => absurd (mode.symm.trans off) nofun, fun _ => held_offAir still later,
      fun onAir => absurd onAir off⟩
  | onAir =>
    rw [mode] at stays
    have stopping : l.stop ≠ .none := by
      intro none
      rw [if_neg (not_not.2 none)] at stays
      cases stays
    have result : x.atLineStart f onGrid (held l fires) = { lane := cleared l (l.stop == .toOff), events := [] } := by
      have same : (held l fires).mode = .onAir := mode
      rw [Store.atLineStart, same]
      exact if_neg stopping
    have still : (cleared l (l.stop == .toOff)).mode ≠ .onAir := by
      cases l.stop == .toOff <;> exact nofun
    rw [result]
    exact ⟨rfl, fun off => absurd (mode.symm.trans off) nofun, fun waiting => absurd (mode.symm.trans waiting) nofun, fun _ => held_offAir still later⟩

/-! ### The line start -/

theorem filter_filter {α : Type} {o : Option α} {p q : α → Bool} (weaker : ∀ x, p x = true → q x = true) : (o.filter p).filter q = o.filter p := by
  cases o with
  | none => rfl
  | some x =>
    have one (r : α → Bool) : (some x).filter r = if r x = true then some x else none := rfl
    rw [one]
    by_cases passes : p x = true
    · rw [if_pos passes, one, if_pos (weaker x passes)]
    · rw [if_neg passes]
      rfl

/-- The clock at an instant that the part's own timing has reached stands. -/
theorem State.clockTo_again (s : State) (t : Micros) : (s.clockTo t).clockTo t = s.clockTo t := by
  by_cases reached : atOrBefore s.clock t = true
  · have now : s.clockTo t = s.clockAt t := if_pos reached
    have here : (s.clockAt t).clock = t := rfl
    rw [now, State.clockTo, if_pos (by rw [here]; simp [atOrBefore, sdiff])]
    have sent : ((s.clockAt t).feed.sentBy t (t - t).toNat) = (s.clockAt t).feed := by
      have port : (s.clockAt t).feed = s.feed.sentBy s.clock (t - s.clock).toNat := rfl
      rw [port, FeedPort.sentBy, FeedPort.sentBy]
      refine congrArg (fun o => ({ s.feed with sending := o } : FeedPort)) (filter_filter fun f going => ?_)
      have elapsed := sdiff_le_elapsed s.clock t f.start
      rw [BitVec.sub_self]
      simp only [Forward.over, Bool.not_eq_true', decide_eq_false_iff_not] at going ⊢
      simp only [BitVec.toNat_zero]
      omega
    rw [State.clockAt, here, sent]
    rfl
  · have past : s.clockTo t = s := if_neg reached
    rw [past, past]

end Sys2Proof.Machine

namespace Sys2Proof.Safety

open Machine

/-- The line start of frame `f`, after the end of a frame of an old grid (R9, R115). -/
def startLine (s : State) (f : LineFrame) (fire : Option Nat) (order : List LaneNo) : State :=
  let s := s.putTimebase { s.timebase with
    reference := some { number := f.number, start := f.start }, onLine := some f, lastOfGrid := false, built := none }
  let s := s.cycleStart f
  let next := s.timebase.nextFrame (f.start + micros Config.frameMicros)
  let s := s.putTimebase (s.timebase.produce (f.start + micros Config.frameMicros))
  s.lanesAtLineStart next fire (orderOf order)

theorem lineStart_eq {s : State} {f : LineFrame} (built : s.timebase.built = some f) (fire : Option Nat) (order : List LaneNo) :
    s.lineStart fire order =
      startLine (if s.timebase.lastOfGrid then (s.clockTo f.start).endFinalFrame else s.clockTo f.start) f fire order := by
  rw [State.lineStart, built]
  dsimp only
  rw [State.clockTo_timebase]
  rfl

/-- The part that the lanes find at a line start, and what they make of it. -/
structure LineStarted (s : State) (f next : LineFrame) (c : Counts) (cycle : Prop) [Decidable cycle] (base : State) : Prop where
  frame : base = { s with
    lanes := base.lanes
    timebase := { s.timebase with
      reference := some { number := f.number, start := f.start }, onLine := some f, lastOfGrid := false, built := some next
      counts := some { number := c.number + 1, position := c.position + 1, cycle := if c.position = 0 then c.cycle + 1 else c.cycle }
      divisorCount := if cycle ∧ s.tables.site.role = .master then
          (if s.tables.site.divisor ≤ s.timebase.divisorCount + 1 then 0 else s.timebase.divisorCount + 1)
        else s.timebase.divisorCount }
    sync := if (cycle ∧ s.tables.site.role = .master) ∧ s.timebase.divisorCount = 0 then
        { s.sync with pulseAt := some (f.start + BitVec.ofNat 32 (s.tables.site.outOffset * 625)) } else s.sync
    hold := if cycle ∧ s.hold.episode = true ∧ s.hold.fired = false ∧ s.hold.due = false then
        { s.hold with count := s.hold.count + 1, due := decide (s.tables.site.holdLimit ≤ s.hold.count + 1) }
      else s.hold }
  lane : ∀ n : LaneNo, base.lanes[n] = { s.lanes[n] with
    cue := if cycle ∧ s.tables.cueLines[n].mode = .repeating ∧ s.tables.cueLines[n].edge ≠ .finish ∧ s.lanes[n].cue.followed = true ∧
        s.lanes[n].cue.train = .idle then
      started s.lanes[n].cue s.tables.cueLines[n] f.start
    else s.lanes[n].cue }

theorem startLine_base {s : State} {c : Counts} (f : LineFrame) (fire : Option Nat) (order : List LaneNo) (counts : s.timebase.counts = some c)
    {cycle : Prop} [Decidable cycle] (iff : cycle ↔ f.position = 0 ∧ s.timebase.mode.onGrid = true) {next : LineFrame}
    (following : next = { number := c.number, position := c.position, start := f.start + 80000, cycle := c.cycle }) :
    ∃ base, LineStarted s f next c cycle base ∧ startLine s f fire order = base.lanesAtLineStart next fire (orderOf order) := by
  let onLine := s.putTimebase { s.timebase with
    reference := some { number := f.number, start := f.start }, onLine := some f, lastOfGrid := false, built := none }
  have frame := onLine.cycleStart_eq f (cycle := cycle) iff
  have lane := fun n => onLine.cycleStart_lane f n (cycle := cycle) iff
  have start : f.start + micros Config.frameMicros = f.start + 80000 := rfl
  have coming : (onLine.cycleStart f).timebase.nextFrame (f.start + micros Config.frameMicros) = next := by
    rw [frame, following, Timebase.nextFrame, Timebase.nextCounts, start]
    show LineFrame.mk (s.timebase.counts.getD _).number (s.timebase.counts.getD _).position _ (s.timebase.counts.getD _).cycle = _
    rw [counts]
    rfl
  have produced : (onLine.cycleStart f).timebase.produce (f.start + micros Config.frameMicros) =
      { (onLine.cycleStart f).timebase with
        built := some next
        counts := some { number := c.number + 1, position := c.position + 1, cycle := if c.position = 0 then c.cycle + 1 else c.cycle } } := by
    rw [Timebase.produce, coming, Timebase.nextCounts]
    have still : (onLine.cycleStart f).timebase.counts = some c := by
      rw [frame]
      exact counts
    rw [still]
    rfl
  refine ⟨(onLine.cycleStart f).putTimebase ((onLine.cycleStart f).timebase.produce (f.start + micros Config.frameMicros)), ⟨?_, lane⟩, ?_⟩
  · rw [produced]
    generalize onLine.cycleStart f = u at frame
    rw [frame]
    rfl
  · rw [← coming]
    rfl

theorem clockTo_air (s : State) (v : Vector Lane 4) (b : Timebase) (y : SyncLine) (t : Micros) :
    (((s.putLanes v).putTimebase b).putSync y).clockTo t = (((s.clockTo t).putLanes v).putTimebase b).putSync y := by
  have reached : atOrBefore (((s.putLanes v).putTimebase b).putSync y).clock t = atOrBefore s.clock t := rfl
  unfold State.clockTo
  rw [reached]
  split <;> rfl

/-- Settles O41. -/
theorem lineStartResult : Obligations.LineStartResult := by
  refine ⟨?_, ?_⟩
  · intro fire order s f c built going counts cycle next hold fires early master cue builds goes
    have iff : cycle ↔ f.position = 0 ∧ (s.clockTo f.start).timebase.mode.onGrid = true := by
      rw [State.clockTo_timebase, onGrid_iff]
    obtain ⟨base, ⟨frame, lane⟩, ran⟩ := startLine_base (s := s.clockTo f.start) (c := c) f fire order
      (by rw [State.clockTo_timebase, counts]) iff (next := next) rfl
    simp only [State.clockTo_timebase, State.clockTo_lanes, State.clockTo_tables, State.clockTo_hold, State.clockTo_sync] at frame lane
    have started : s.lineStart fire order = base.lanesAtLineStart next fire (orderOf order) := by
      rw [lineStart_eq built, going, ← ran]
      rfl
    have tables : base.tables = s.tables := by rw [frame]
    have titles : base.titles = s.titles := by rw [frame, ← State.clockTo_titles s f.start]
    have mode : base.timebase.mode = s.timebase.mode := by rw [frame]
    have baseHold : base.hold = hold := by rw [frame]
    have unit : base.answers = s.answers := by rw [frame, ← State.clockTo_answers s f.start]
    have site : base.siteAddress = s.siteAddress := by rw [frame, ← State.clockTo_siteAddress s f.start]
    have store (n : LaneNo) : base.store n = s.store n := by
      rw [State.store, tables, titles]
      rfl
    rw [State.lanesAtLineStart_eq _ _ _ _ (nodup_orderOf order), baseHold, mode] at started
    simp only [store] at started
    have whole : (orderOf order).take (fire.getD 0) ++ (orderOf order).drop (fire.getD 0) = orderOf order := List.take_append_drop _ _
    have once : ((orderOf order).take (fire.getD 0) ++ (orderOf order).drop (fire.getD 0)).Nodup := by
      rw [whole]
      exact nodup_orderOf order
    have result := State.settleFired_eq (fun n => (s.store n).atLineStart next s.timebase.mode.onGrid) once (firedHold hold fires) fires base
    have lanes (n : LaneNo) := State.settleFired_lane (fun n => (s.store n).atLineStart next s.timebase.mode.onGrid) once
      (firedHold hold fires) fires base n (by rw [whole]; exact mem_orderOf order n)
    rw [← started, whole, latchAll_answers site unit] at result
    simp only [lane] at result
    have lanes' (n : LaneNo) : (s.lineStart fire order).lanes[n] =
        held ((s.store n).atLineStart next s.timebase.mode.onGrid (held { s.lanes[n] with cue := cue n } (fires && !early n))).lane
          (fires && early n) := by
      rw [started, lanes n, lane n]
    have goesOn (n : LaneNo) : goes n = ({ s.lanes[n] with cue := cue n } : Lane).goesOn (fires && !early n) := by
      simp only [goes, Lane.goesOn]
      cases mode : s.lanes[n].mode with
      | off => rfl
      | waiting => rfl
      | onAir => simp [Lane.toLine, held]
    have events (n : LaneNo) : ((s.store n).atLineStart next s.timebase.mode.onGrid
        (held { s.lanes[n] with cue := cue n } (fires && !early n))).events = ((goes n).map fun l => (builds n l).events).getD [] := by
      cases going : goes n with
      | none =>
        exact ((s.store n).atLineStart_stays next s.timebase.mode.onGrid (fires && !early n) false ((goesOn n).symm.trans going)).events
      | some l =>
        obtain ⟨built, -⟩ := (s.store n).atLineStart_goes next s.timebase.mode.onGrid (fires && !early n) ((goesOn n).symm.trans going)
        exact congrArg Settled.events built
    refine ⟨s.lineStart fire order, rfl, ?_, fun n => ⟨fun l going => ?_, fun stays => ⟨fun onAir => ?_, fun waiting => ?_, fun off => ?_⟩⟩⟩
    · refine result.trans ((congrArg (fun l => ((base.putHold (firedHold hold fires)).putLanes (s.lineStart fire order).lanes).putAnswers
        (s.latchAll l).answers) (List.flatMap_congr fun n _ => events n)).trans ((congrArg (fun b : State => ((b.putHold (firedHold hold fires)).putLanes (s.lineStart fire order).lanes).putAnswers
        (s.latchAll ((orderOf order).flatMap fun n => ((goes n).map fun l => (builds n l).events).getD [])).answers) frame).trans ?_))
      simp only [State.clockTo_tables]
      rw [going]
      rfl
    · obtain ⟨built, onAir, onLine⟩ := (s.store n).atLineStart_goes next s.timebase.mode.onGrid (fires && !early n)
        ((goesOn n).symm.trans going)
      have lane : (s.lineStart fire order).lanes[n] = held (builds n l).lane (fires && early n) := by rw [lanes' n, built]
      obtain ⟨fr, inBuild, -⟩ := (s.store n).build_inBuild next l
      refine ⟨lane, ?_, ?_, ?_, ?_, fun e fell => ?_⟩
      · rw [lane]
        exact ((s.store n).build_mode next l).trans onAir
      · rw [lane]
        exact ((s.store n).build_onLine next l).trans onLine
      · rw [lane]
        exact (s.store n).build_lastBuilt next l
      · rw [lane]
        exact congrArg Option.isSome inBuild
      · rw [State.latched, result]
        refine latchAll_flatMap (s := s) (mem_orderOf order n) ?_
        rw [events n, going]
        exact fell
    · have stay := (s.store n).atLineStart_stays next s.timebase.mode.onGrid (fires && !early n) (fires && early n)
        ((goesOn n).symm.trans stays)
      exact (lanes' n).trans (stay.onAir onAir)
    · have stay := (s.store n).atLineStart_stays next s.timebase.mode.onGrid (fires && !early n) (fires && early n)
        ((goesOn n).symm.trans stays)
      have empty : s.lanes[n].inBuild = none := by
        by_contra some
        simp only [goes, waiting, if_neg some] at stays
        cases stays
      rw [lanes' n, stay.waiting waiting]
      split
      · next joins =>
        obtain ⟨zero, grid, station⟩ := joins
        exact ⟨_, Store.atBuild_joins (x := s.store n) (f := next) waiting ⟨zero, (onGrid_iff _).2 grid, empty, station⟩,
          Store.headFrame_is _ _ _ _ _⟩
      · next waits =>
        exact Store.atBuild_waits (x := s.store n) (f := next) waiting fun joins => waits ⟨joins.1, (onGrid_iff _).1 joins.2.1, joins.2.2.2⟩
    · have stay := (s.store n).atLineStart_stays next s.timebase.mode.onGrid (fires && !early n) (fires && early n)
        ((goesOn n).symm.trans stays)
      exact (lanes' n).trans (stay.off off)
  · intro fire order s f old built line last still start
    have ends : s.finalFrameEnd = (s.clockTo f.start).endFinalFrame := by
      rw [State.finalFrameEnd, line, start]
      exact if_pos last
    have frame := endFinalFrame_frame (s.clockTo f.start)
    rw [State.clockTo_timebase, still, ← ends] at frame
    have later : s.finalFrameEnd.timebase.built = some f := by
      rw [frame]
      exact built
    have ended : s.finalFrameEnd.timebase.lastOfGrid = false := by
      rw [frame]
      rfl
    refine ⟨s.finalFrameEnd, rfl, ended, ?_⟩
    have clock : s.finalFrameEnd.clockTo f.start = s.finalFrameEnd := by
      rw [frame]
      exact (clockTo_air (s.clockTo f.start) s.finalFrameEnd.lanes { s.timebase with onLine := none, lastOfGrid := false }
        (s.clockTo f.start).sync f.start).trans (by rw [State.clockTo_again]; rfl)
    have same : s.lineStart fire order = s.finalFrameEnd.lineStart fire order := by
      rw [lineStart_eq built, lineStart_eq later, clock, last, ended, ← ends]
      rfl
    exact congrArg Host.Outcome.next same

end Sys2Proof.Safety
end

section
/-! PROOF. The placement of a table and the steps of the start-up load (R172, R176 to R178). -/

namespace Sys2Proof.Safety

open Machine

/-! ### A placement (R170, R176, R181) -/

/-- `t` is `s` but for its clock, its feed port and its answer unit. -/
def Beside (s t : State) : Prop := ∃ c f u, t = ((s.putClock c).putFeed f).putAnswers u

theorem Beside.clockAt (s : State) (t : Micros) : Beside s (s.clockAt t) := ⟨t, s.feed.sentBy s.clock (t - s.clock).toNat, s.answers, rfl⟩

theorem Beside.putAnswers {s t : State} (h : Beside s t) (u : AnswerUnit) : Beside s (t.putAnswers u) := by
  obtain ⟨c, f, _, rfl⟩ := h
  exact ⟨c, f, u, rfl⟩

theorem Beside.tables {s t : State} (h : Beside s t) : t.tables = s.tables := by
  obtain ⟨c, f, _, rfl⟩ := h
  rfl

theorem Beside.preset {s t : State} (h : Beside s t) : t.preset = s.preset := by
  obtain ⟨c, f, _, rfl⟩ := h
  rfl

theorem Beside.memory {s t : State} (h : Beside s t) : t.memory = s.memory := by
  obtain ⟨c, f, _, rfl⟩ := h
  rfl

theorem urgentOnNat_of_lt {s : State} {n : LaneNo} {k : Nat} (lane : k = n.val) : s.urgentOnNat k = s.urgentOn n := by
  subst lane
  exact dif_pos n.isLt

/-- A list of `m` entries for each lane, kept for the lanes that hold URGENT. -/
theorem ofFn_urgent {α : Type} {N m j : Nat} {s : State} {n : LaneNo} (v w : Vector α N) (within : j < N) (lane : j / m = n.val) :
    (Vector.ofFn fun i : Fin N => if s.urgentOnNat (i.val / m) then v[i] else w[i])[j]? = if s.urgentOn n then v[j]? else w[j]? := by
  rw [Vector.getElem?_eq_getElem within, Vector.getElem_ofFn, Vector.getElem?_eq_getElem within, Vector.getElem?_eq_getElem within,
    urgentOnNat_of_lt lane]
  split <;> rfl

theorem placed_keep (s : State) (T : Tables) : Placed s T (s.keepFrozen (s.keepRunning T)) := by
  refine ⟨fun n => ?_, fun n i => ?_, fun n i => ?_, fun n i => ?_, rfl, rfl, rfl, rfl⟩
  · have running : (s.keepRunning T).lane[n] = if s.urgentOn n then
        { T.lane[n] with regularLen := s.tables.lane[n].regularLen, bulletinLen := s.tables.lane[n].bulletinLen,
                         urgentLen := s.tables.lane[n].urgentLen }
      else T.lane[n] := by simp [State.keepRunning]
    have frozen : (s.keepFrozen (s.keepRunning T)).lane[n] = match s.frozen[n] with
      | some f => { (s.keepRunning T).lane[n] with station := f.station, zone := f.zone }
      | none => (s.keepRunning T).lane[n] := by
      simp [State.keepFrozen] <;> rfl
    rw [frozen, running]
    cases s.frozen[n] <;> cases s.urgentOn n <;> rfl
  · exact ofFn_urgent _ _ (by omega) (by omega)
  · exact ofFn_urgent _ _ (by omega) (by omega)
  · exact ofFn_urgent _ _ (by omega) (by omega)

/-- What the placement of `T` leaves of a part that is `s` but for its clock, its feed port and its answers. -/
structure PlacedAt (s now : State) (T : Tables) (u : State) : Prop where
  placed : Placed s T u.tables
  lane : ∀ n : LaneNo, u.lanes[n] = rewritten s u.tables n
  holdOk : HoldOk s → HoldOk u
  frame : u = { now with tables := u.tables, lanes := u.lanes, hold := reheld s u.tables }

theorem place_placedAt {s now : State} (same : Beside s now) (T : Tables) : PlacedAt s now T (now.place T) := by
  obtain ⟨c, f, u, rfl⟩ := same
  let now := ((s.putClock c).putFeed f).putAnswers u
  have tables : (now.place T).tables = now.keepFrozen (now.keepRunning T) := by simp [State.place]
  refine ⟨?_, ?_, fun ok => HoldOk.changeTables (s := now) _ ok, ?_⟩
  · rw [tables]
    exact placed_keep now T
  · rw [tables]
    exact changeTables_rewritten now _
  · rw [tables]
    exact changeTables_reheld now _

/-! ### The steps of the start-up load -/

/-- An event that falls, or does not, latches as it would in a part with the same answer unit. -/
theorem latchIf_answers {s now : State} (site : now.siteAddress = s.siteAddress) (unit : now.answers = s.answers) (b : Bool) (e : Event) :
    now.latchIf b e = now.putAnswers (if b then (s.latch e).answers else s.answers) := by
  cases b with
  | false =>
    rw [if_neg Bool.false_ne_true, ← unit]
    rfl
  | true => exact State.latch_of_same site unit e

/-- The judgement of the image with the judgement of a place of it, whose fault latches (R177). -/
theorem judgeImage_latch (s : State) (time : Micros) (p : StartUp) (good : Bool) :
    let now := s.clockAt time
    let valid := p.image.getD (s.loadSource == .preset && headerValid s.memory.header)
    let badHeader := p.image = none ∧ s.loadSource = .preset ∧ headerValid s.memory.header = false
    (now.judgeImage p).2 = valid ∧
    (now.judgeImage p).1.latchIf (valid && !(valid && good)) .presetFault =
      now.putAnswers (if badHeader ∨ (valid = true ∧ (valid && good) = false) then (s.latch .presetFault).answers else s.answers) ∧
    (now.judgeImage p).1.memory = s.memory := by
  intro now valid badHeader
  have fails (v g : Bool) : (v && !(v && g)) = true ↔ v = true ∧ (v && g) = false := by cases v <;> cases g <;> simp
  have fault (b : Bool) := latchIf_answers (s := s) (now := now) rfl rfl b .presetFault
  rcases Option.eq_none_or_eq_some p.image with image | ⟨b, image⟩
  · have judged : now.judgeImage p = (now.latchIf (s.loadSource == .preset && !headerValid s.memory.header) .presetFault, valid) := by
      rw [State.judgeImage, image]
      simp only [valid, image, Option.getD_none]
      rfl
    have value : valid = (s.loadSource == .preset && headerValid s.memory.header) := by simp only [valid, image, Option.getD_none]
    rw [judged]
    refine ⟨rfl, ?_, by simp; rfl⟩
    by_cases bad : s.loadSource = .preset ∧ headerValid s.memory.header = false
    · obtain ⟨preset, invalid⟩ := bad
      have off : valid = false := by rw [value, invalid, Bool.and_false]
      have strap : (s.loadSource == .preset && !headerValid s.memory.header) = true := by
        rw [preset, invalid]
        rfl
      refine Eq.trans ?_ (congrArg now.putAnswers (if_pos (Or.inl ⟨image, preset, invalid⟩)).symm)
      rw [strap, off]
      exact fault true
    · have still : (s.loadSource == .preset && !headerValid s.memory.header) = false := by
        simpa using bad
      rw [still]
      refine (fault _).trans (congrArg now.putAnswers (if_congr ?_ rfl rfl))
      exact (fails valid good).trans (or_iff_right fun header : badHeader => bad header.2).symm
  · have judged : now.judgeImage p = (now, b) := by rw [State.judgeImage, image]
    have value : valid = b := by simp only [valid, image, Option.getD_some]
    rw [judged, value]
    refine ⟨rfl, ?_, rfl⟩
    rw [fault]
    have given : ¬badHeader := fun header => nomatch image.symm.trans header.1
    exact congrArg now.putAnswers (if_congr ((fails b good).trans (or_iff_right given).symm) rfl rfl)

/-- A table is placed from a good record, else from its defaults. -/
theorem place_of_record {s now : State} (same : Beside s now) (k : Nat) (l : List Byte) {good : Bool}
    (judged : good = true → tableRecordGood k l = true) :
    (if good then now.placeRecord k l else now.placeDefault k) =
      now.place (if good then s.tables.fromRecord k l else s.tables.copyTable Tables.default k) := by
  rw [← same.tables]
  cases good with
  | false => rfl
  | true => exact if_pos (judged rfl)

theorem startUpTable_result {s now j : State} (same : Beside s now) {unit : AnswerUnit} (p : StartUp) {valid good : Bool} {k : Nat}
    (judged : good = (valid && tableRecordGood k (s.memory.table k))) (latched : j.latchIf (valid && !good) .presetFault = now.putAnswers unit)
    (memory : j.memory = s.memory) :
    ∃ u, PlacedAt s (now.putAnswers unit) (if good then s.tables.fromRecord k (s.memory.table k) else s.tables.copyTable Tables.default k) u ∧
      j.startUpTable p valid k = u.putPreset {
        op := .startUp { next := p.next + 1, image := some valid, defaulted := if good then p.defaulted else p.defaulted ||| tableBit k }
        condition := .answering
        t7Placed := s.preset.t7Placed || k == 7 } := by
  have put := same.putAnswers unit
  have result := place_placedAt put (if good then s.tables.fromRecord k (s.memory.table k) else s.tables.copyTable Tables.default k)
  have placing := place_of_record put k (s.memory.table k) (good := good) fun both => (Bool.and_eq_true_iff.1 (judged.symm.trans both)).2
  refine ⟨_, result, ?_⟩
  have preset : ((now.putAnswers unit).place (if good then s.tables.fromRecord k (s.memory.table k)
      else s.tables.copyTable Tables.default k)).preset = s.preset := by
    rw [result.frame]
    exact same.preset
  have records : (now.putAnswers unit).memory = s.memory := put.memory
  rw [State.startUpTable, memory, ← judged]
  rw [latched, records, placing, preset]

theorem startUpTablePlaced_table {s : State} (time : Micros) {p : StartUp} (loading : s.preset.op = .startUp p) (more : p.next < 8) :
    let valid := p.image.getD (s.loadSource == .preset && headerValid s.memory.header)
    let badHeader := p.image = none ∧ s.loadSource = .preset ∧ headerValid s.memory.header = false
    let good := valid && tableRecordGood (p.next + 1) (s.memory.table (p.next + 1))
    ∃ t, exec (.startUpTablePlaced time) s = .next t ∧
      Placed s (if good then s.tables.fromRecord (p.next + 1) (s.memory.table (p.next + 1))
        else s.tables.copyTable Tables.default (p.next + 1)) t.tables ∧
      (∀ n : LaneNo, t.lanes[n] = rewritten s t.tables n) ∧ (HoldOk s → HoldOk t) ∧
      t = { s.clockAt time with
        tables := t.tables, lanes := t.lanes, hold := reheld s t.tables
        answers := if badHeader ∨ (valid = true ∧ good = false) then (s.latch .presetFault).answers else s.answers
        preset := {
          op := .startUp { next := p.next + 1, image := some valid,
                           defaulted := if good then p.defaulted else p.defaulted ||| (1#8) <<< p.next }
          condition := .answering
          t7Placed := s.preset.t7Placed || p.next == 6 } } := by
  intro valid badHeader good
  obtain ⟨judgement, latched, memory⟩ := judgeImage_latch s time p (tableRecordGood (p.next + 1) (s.memory.table (p.next + 1)))
  obtain ⟨u, ⟨placed, lane, holdOk, frame⟩, step⟩ := startUpTable_result (Beside.clockAt s time) p (valid := valid) (good := good) rfl latched memory
  have op : (s.clockAt time).preset.op = .startUp p := loading
  have run : (s.clockAt time).startUpTablePlaced = ((s.clockAt time).judgeImage p).1.startUpTable p valid (p.next + 1) := by
    rw [State.startUpTablePlaced, op]
    refine (if_pos more).trans ?_
    exact congrArg (fun v => ((s.clockAt time).judgeImage p).1.startUpTable p v (p.next + 1)) judgement
  have seven : (p.next + 1 == 7) = (p.next == 6) := by
    rw [Bool.eq_iff_iff, beq_iff_eq, beq_iff_eq]
    omega
  rw [step, seven] at run
  refine ⟨_, congrArg Host.Outcome.next run, placed, lane, holdOk, ?_⟩
  exact congrArg (fun w : State => w.putPreset _) frame

theorem startUpTablePlaced_flags {s : State} (time : Micros) {p : StartUp} (loading : s.preset.op = .startUp p) (last : p.next = 8) :
    let valid := p.image.getD (s.loadSource == .preset && headerValid s.memory.header)
    let badHeader := p.image = none ∧ s.loadSource = .preset ∧ headerValid s.memory.header = false
    let good := valid && recordGood 3 s.memory.flags
    exec (.startUpTablePlaced time) s = .next { s.clockAt time with
      protect := { s.protect with flags := if good then byteAt s.memory.flags 0 ||| p.defaulted else 0xFF }
      answers := if badHeader ∨ (valid = true ∧ good = false) then (s.latch .presetFault).answers else s.answers
      preset := { s.preset with op := .startUp { p with next := 9, image := some valid }, condition := .answering } } := by
  intro valid badHeader good
  obtain ⟨judgement, latched, memory⟩ := judgeImage_latch s time p (recordGood 3 s.memory.flags)
  have op : (s.clockAt time).preset.op = .startUp p := loading
  have run : (s.clockAt time).startUpTablePlaced = ((s.clockAt time).judgeImage p).1.startUpFlags p valid := by
    rw [State.startUpTablePlaced, op]
    refine (if_neg (by omega)).trans ((if_pos last).trans ?_)
    exact congrArg (fun v => ((s.clockAt time).judgeImage p).1.startUpFlags p v) judgement
  rw [State.startUpFlags, memory] at run
  exact congrArg Host.Outcome.next (run.trans (congrArg (fun w : State =>
    ((w.putProtect { w.protect with flags := if good then byteAt w.memory.flags 0 ||| p.defaulted else 0xFF }).putCondition .answering).putOp
      (.startUp { p with next := 9, image := some valid })) latched))

/-! ### The freeze records -/

theorem freezeValues_zone {l : List Byte} (coded : (byteAt l 3).toNat < 16) : (freezeValues l).zone.val = (byteAt l 3).toNat := by
  simp [freezeValues, zone?, coded]

/-- A change of the tables that leaves the report, over a hold that follows it, leaves the hold and the lanes. -/
theorem reheld_still {s : State} {T : Tables} (site : T.site = s.tables.site) (cues : T.cueLines = s.tables.cueLines) (ok : HoldOk s) :
    reheld s T = s.hold ∧ ∀ n : LaneNo, rewritten s T n = s.lanes[n] := by
  have report : holdoverReport s.monitor.state T.site = s.hold.episode := by
    rw [site]
    exact ok.1.symm
  refine ⟨?_, fun n => ?_⟩
  · rw [reheld, report]
    exact reported_same _ _
  · have quiet : firesAt s.hold (holdoverReport s.monitor.state T.site) T.site.holdLimit = false := by
      rw [report, firesAt, Bool.and_not_self, Bool.false_and]
    rw [rewritten, quiet, held_false, cues, if_pos rfl]

theorem freezeRecordRead_result (time : Micros) (s : State) (p : StartUp) (n : LaneNo) (loading : s.preset.op = .startUp p)
    (place : p.next = 9 + n.val) :
    exec (.freezeRecordRead time) s = .next
      ((((s.clockAt time).readFreeze n).putCondition .answering).putOp (.startUp { p with next := p.next + 1 })) := by
  have op : (s.clockAt time).preset.op = .startUp p := loading
  have within : 9 ≤ p.next ∧ p.next < 13 := by omega
  have lane : (⟨p.next - 9, by omega⟩ : LaneNo) = n := Fin.ext (by simp only; omega)
  have run : (s.clockAt time).freezeRecordRead =
      (((s.clockAt time).readFreeze n).putCondition .answering).putOp (.startUp { p with next := p.next + 1 }) := by
    rw [State.freezeRecordRead, op]
    refine (dif_pos within).trans ?_
    rw [lane]
  exact congrArg Host.Outcome.next run

/-- The tables with a lane's frozen station code and zone. -/
def withFreeze (T : Tables) (n : LaneNo) (f : Frozen) : Tables :=
  { T with lane := T.lane.set n { T.lane[n] with station := f.station, zone := f.zone } }

theorem applyFreeze_result {s now : State} (same : Beside s now) (n : LaneNo) (f : Frozen) :
    now.applyFreeze n f = { now with
      tables := withFreeze s.tables n f, lanes := (now.applyFreeze n f).lanes, hold := reheld s (withFreeze s.tables n f)
      frozen := s.frozen.set n (some f) } ∧
    ∀ m : LaneNo, (now.applyFreeze n f).lanes[m] = rewritten s (withFreeze s.tables n f) m := by
  obtain ⟨c, g, u, rfl⟩ := same
  refine ⟨?_, ?_⟩
  · exact congrArg (fun w : State => w.putFrozen (s.frozen.set n (some f)))
      (changeTables_reheld (((s.putClock c).putFeed g).putAnswers u) (withFreeze s.tables n f))
  · exact changeTables_rewritten (((s.putClock c).putFeed g).putAnswers u) (withFreeze s.tables n f)

theorem freezeRecord_steps (time : Micros) (s : State) (p : StartUp) (n : LaneNo) (loading : s.preset.op = .startUp p)
    (place : p.next = 9 + n.val) :
    let l := s.memory.freeze[n]
    let freezes := freezeRecordGood n l = true ∧ isErased l = false
    ∃ t, exec (.freezeRecordRead time) s = .next t ∧
      t = { s.clockAt time with
        tables := t.tables, frozen := t.frozen, answers := t.answers, lanes := t.lanes
        preset := { s.preset with op := .startUp { p with next := p.next + 1 }, condition := .answering }
        hold := if freezes then reheld s t.tables else s.hold } ∧
      (∀ m : LaneNo, t.lanes[m] = if freezes then rewritten s t.tables m else s.lanes[m]) ∧
      (HoldOk s → t.hold = s.hold ∧ t.lanes = s.lanes) ∧
      (freezes →
        ∃ f, t.frozen = s.frozen.set n (some f) ∧ f.station = halfAt l 1 ∧ ((byteAt l 3).toNat < 16 → f.zone.val = (byteAt l 3).toNat) ∧
          t.tables = { s.tables with lane := s.tables.lane.set n { s.tables.lane[n] with station := f.station, zone := f.zone } } ∧
          t.answers = s.answers) ∧
      (isErased l = true → t.frozen = s.frozen ∧ t.tables = s.tables ∧ t.answers = s.answers) ∧
      (freezeRecordGood n l = false → isErased l = false →
        t.frozen = s.frozen ∧ t.tables = s.tables ∧ t.answers = (s.latch .presetFault).answers) := by
  intro l freezes
  have run := freezeRecordRead_result time s p n loading place
  have kept : (s.clockAt time).memory.freeze[n] = l := rfl
  rcases Bool.eq_false_or_eq_true (isErased l) with erased | written
  · have none : ¬freezes := fun h => absurd (erased.symm.trans h.2) nofun
    have reads : (s.clockAt time).readFreeze n = s.clockAt time := if_pos erased
    rw [reads] at run
    refine ⟨_, run, ?_, fun m => (if_neg none).symm, fun _ => ⟨rfl, rfl⟩, fun h => absurd h none, fun _ => ⟨rfl, rfl, rfl⟩,
      fun _ written => absurd (erased.symm.trans written) nofun⟩
    rw [if_neg none]
    rfl
  · have reads : (s.clockAt time).readFreeze n =
        if freezeRecordGood n l then (s.clockAt time).applyFreeze n (freezeValues l) else (s.clockAt time).latch .presetFault :=
      if_neg (by rw [kept, written]; decide)
    rcases Bool.eq_false_or_eq_true (freezeRecordGood n l) with good | bad
    · have all : freezes := ⟨good, written⟩
      obtain ⟨frame, lane⟩ := applyFreeze_result (Beside.clockAt s time) n (freezeValues l)
      rw [good, if_pos rfl] at reads
      rw [reads, frame] at run
      refine ⟨_, run, ?_, fun m => ?_, fun ok => ?_, fun _ => ?_, fun erased => absurd (written.symm.trans erased) nofun,
        fun bad => absurd (good.symm.trans bad) nofun⟩
      · rw [if_pos all]
        rfl
      · rw [if_pos all]
        exact lane m
      · obtain ⟨hold, lanes⟩ := reheld_still (T := withFreeze s.tables n (freezeValues l)) rfl rfl ok
        exact ⟨hold, Vector.ext fun i within => (lane ⟨i, within⟩).trans (lanes ⟨i, within⟩)⟩
      · exact ⟨freezeValues l, rfl, rfl, freezeValues_zone, rfl, rfl⟩
    · have none : ¬freezes := fun h => absurd (bad.symm.trans h.1) nofun
      rw [bad, if_neg Bool.false_ne_true, State.latch_of_same (s := s) (t := s.clockAt time) rfl rfl] at reads
      rw [reads] at run
      refine ⟨_, run, ?_, fun m => (if_neg none).symm, fun _ => ⟨rfl, rfl⟩, fun h => absurd h none,
        fun erased => absurd (written.symm.trans erased) nofun, fun _ _ => ⟨rfl, rfl, rfl⟩⟩
      rw [if_neg none]
      rfl

/-! ### The end of the load (R178) -/

theorem autoLaneOn_switches (s : State) (n : LaneNo) :
    s.autoLaneOn.lanes[n] =
      if s.tables.lane[n].onAtStart = true ∧ ¬(s.lanes[n].mode = .off ∧ s.tables.lane[n].station = 0) then s.lanes[n].switchOn else s.lanes[n] := by
  rw [State.autoLaneOn_lane]
  refine if_congr ?_ rfl rfl
  simp [State.unsetLane, imp_iff_not_or]

theorem switchOn_fields (l : Lane) : l.switchOn.inBuild = l.inBuild ∧ (l.switchOn.mode = .onAir ↔ l.mode = .onAir) ∧
    (l.switchOn.mode = .waiting ↔ l.mode = .waiting ∨ l.mode = .off) := by
  obtain ⟨mode, stop⟩ := l
  cases mode with
  | off => simp [Lane.switchOn]
  | waiting => simp [Lane.switchOn]
  | onAir => cases stop <;> simp [Lane.switchOn]

theorem switchOn_waiting {l : Lane} (waiting : l.mode = .waiting) : l.switchOn = l := by
  rw [Lane.switchOn, waiting]

theorem autoLaneOn_waiting {s : State} {n : LaneNo} (waiting : s.lanes[n].mode = .waiting) : s.autoLaneOn.lanes[n] = s.lanes[n] := by
  rw [autoLaneOn_switches, switchOn_waiting waiting, ite_self]

theorem autoLaneOn_fields (s : State) (n : LaneNo) : s.autoLaneOn.lanes[n].inBuild = s.lanes[n].inBuild ∧
    (s.autoLaneOn.lanes[n].mode = .waiting ↔ s.lanes[n].mode = .waiting ∨
      (s.lanes[n].mode = .off ∧ s.tables.lane[n].onAtStart = true ∧ ¬(s.lanes[n].mode = .off ∧ s.tables.lane[n].station = 0))) := by
  rw [autoLaneOn_switches]
  obtain ⟨inBuild, -, waiting⟩ := switchOn_fields s.lanes[n]
  split
  · next on =>
    refine ⟨inBuild, waiting.trans (or_congr_right ?_)⟩
    exact ⟨fun off => ⟨off, on⟩, And.left⟩
  · next off => exact ⟨rfl, Iff.symm (or_iff_left fun on => off on.2)⟩

theorem startAir_going {s : State} (going : s.timebase.mode ≠ .stopped) : s.startAir = s := if_neg going

theorem startAir_follows {s : State} (stopped : s.timebase.mode = .stopped) (role : s.tables.site.role = .follower) :
    s.startAir = s.putTimebase { Timebase.reset with mode := .awaitSync } := by
  refine (if_pos stopped).trans ?_
  rw [role]

/-- The autostart of a part whose START AIR builds no frame. -/
theorem autostart_quiet {s : State} {b : Timebase} (starts : ∀ v, (s.putLanes v).startAir = (s.putLanes v).putTimebase b) (airFirst : Bool) :
    s.autostart airFirst = s.autoLaneOn.putTimebase b := by
  cases airFirst with
  | false => exact starts _
  | true => exact congrArg State.autoLaneOn (starts s.lanes)

/-- The autostart of a part that START AIR has running: the lanes on at start are switched on, and those WAITING at START AIR make join frames. -/
theorem autostart_runs {s : State} (stopped : s.timebase.mode = .stopped) (role : s.tables.site.role ≠ .follower)
    (off : ∀ n : LaneNo, s.lanes[n].mode ≠ .onAir) (airFirst : Bool) :
    s.autostart airFirst = { s with lanes := (s.autostart airFirst).lanes, timebase := firstBuilt (s.clock + 80000) } ∧
    ∀ n : LaneNo,
      if s.lanes[n].inBuild = none ∧ s.tables.lane[n].station ≠ 0 ∧ (s.lanes[n].mode = .waiting ∨ (s.lanes[n].mode = .off ∧
          (s.tables.lane[n].onAtStart = true ∧ ¬(s.lanes[n].mode = .off ∧ s.tables.lane[n].station = 0)) ∧ airFirst = false)) then
        ∃ fr, (s.autostart airFirst).lanes[n] = { s.autoLaneOn.lanes[n] with inBuild := some fr, lastBuilt := 0 } ∧
          HeadIs (s.store n) { number := 0, position := 0, start := s.clock + 80000, cycle := 0 } fr false false 0
      else (s.autostart airFirst).lanes[n] = s.autoLaneOn.lanes[n] := by
  cases airFirst with
  | true =>
    have started := startAir_runs stopped role off
    have tables : s.startAir.tables = s.tables := by rw [started.frame]
    have runs : s.autostart true = s.startAir.autoLaneOn := rfl
    refine ⟨congrArg (fun u : State => u.putLanes (s.startAir.autoLaneOn).lanes) started.frame, fun n => ?_⟩
    have lane := started.lane n
    split at lane
    · next joins =>
      obtain ⟨waiting, empty, station⟩ := joins
      obtain ⟨fr, lane, head⟩ := lane
      have still : s.startAir.lanes[n].mode = .waiting := by rw [lane, waiting]
      rw [if_pos ⟨empty, station, Or.inl waiting⟩, runs, autoLaneOn_waiting still, autoLaneOn_waiting waiting]
      exact ⟨fr, lane, head⟩
    · next waits =>
      rw [if_neg fun joins => joins.2.2.elim (fun waiting => waits ⟨waiting, joins.1, joins.2.1⟩) fun later => absurd later.2.2 nofun, runs,
        autoLaneOn_switches, autoLaneOn_switches, tables, lane]
  | false =>
    have still : ∀ n : LaneNo, s.autoLaneOn.lanes[n].mode ≠ .onAir := fun n => by
      rw [autoLaneOn_switches]
      split
      · exact fun onAir => off n ((switchOn_fields _).2.1.1 onAir)
      · exact off n
    have started := startAir_runs (s := s.autoLaneOn) stopped role still
    refine ⟨started.frame, fun n => ?_⟩
    have lane := started.lane n
    obtain ⟨inBuild, waiting⟩ := autoLaneOn_fields s n
    split at lane
    · next joins =>
      obtain ⟨waits, empty, station⟩ := joins
      rw [if_pos ⟨inBuild.symm.trans empty, station, (waiting.1 waits).imp_right fun on => ⟨on.1, on.2, rfl⟩⟩]
      exact lane
    · next stays =>
      rw [if_neg fun joins => stays ⟨waiting.2 (joins.2.2.imp_right fun on => ⟨on.1, on.2.1⟩), inBuild.trans joins.1, joins.2.1⟩]
      exact lane

/-- Settles O55. -/
theorem startUpSteps : Obligations.StartUpSteps := by
  refine ⟨fun time s p loading _ => ?_, freezeRecord_steps, fun time airFirst s p loading last => ?_⟩
  · exact ⟨startUpTablePlaced_table time loading, startUpTablePlaced_flags time loading⟩
  · intro now done
    have op : (s.clockAt time).preset.op = .startUp p := loading
    have run : (s.clockAt time).startUpLoadEnd airFirst = if done.autostartActs p then done.autostart airFirst else done := by
      rw [State.startUpLoadEnd, op]
      exact if_pos last
    have exec' : exec (.startUpLoadEnd time airFirst) s = .next ((s.clockAt time).startUpLoadEnd airFirst) := rfl
    have acting : done.autostartActs p = true ↔ p.image = some true ∧ s.tables.site.autostart = true := by
      rw [State.autostartActs, Bool.and_eq_true, beq_iff_eq]
      rfl
    refine ⟨fun none => ?_, fun image autostart calm => ?_⟩
    · have rests : ¬done.autostartActs p = true := fun acts =>
        none.elim (fun other => other (acting.1 acts).1) fun off => absurd (off.symm.trans (acting.1 acts).2) nofun
      rw [exec', run, if_neg rests]
    · intro on switched runs first builds
      rw [if_pos (acting.2 ⟨image, autostart⟩)] at run
      have lane (n : LaneNo) : done.autoLaneOn.lanes[n] = switched n := autoLaneOn_switches done n
      by_cases going : runs
      · obtain ⟨stopped, role⟩ := id going
        obtain ⟨frame, lanes⟩ := autostart_runs (s := done) stopped role (calm stopped) airFirst
        refine ⟨_, exec'.trans (congrArg Host.Outcome.next run), ?_, fun n => ?_⟩
        · rw [if_pos going]
          exact frame
        · have result := lanes n
          rw [lane n] at result
          split
          · next joins =>
            exact (if_pos joins.2).mp result
          · next stays =>
            exact (if_neg fun joins => stays ⟨going, joins⟩).mp result
      · have quiet (b : Timebase) (starts : ∀ v, (done.putLanes v).startAir = (done.putLanes v).putTimebase b)
            (given : b = if s.timebase.mode = .stopped then { Timebase.reset with mode := .awaitSync } else s.timebase) :
            done.autostart airFirst = done.autoLaneOn.putTimebase
              (if s.timebase.mode = .stopped then { Timebase.reset with mode := .awaitSync } else s.timebase) := by
          rw [← given]
          exact autostart_quiet starts airFirst
        have result : done.autostart airFirst = done.autoLaneOn.putTimebase
            (if s.timebase.mode = .stopped then { Timebase.reset with mode := .awaitSync } else s.timebase) := by
          by_cases stopped : s.timebase.mode = .stopped
          · have role : s.tables.site.role = .follower := not_not.1 fun other => going ⟨stopped, other⟩
            exact quiet _ (fun v => startAir_follows (s := done.putLanes v) stopped role) (if_pos stopped).symm
          · exact quiet _ (fun v => startAir_going (s := done.putLanes v) stopped) (if_neg stopped).symm
        rw [result] at run
        refine ⟨_, exec'.trans (congrArg Host.Outcome.next run), ?_, fun n => ?_⟩
        · rw [if_neg going]
          rfl
        · rw [if_neg fun builds => going builds.1]
          exact lane n

end Sys2Proof.Safety
end

section
/-! PROOF. The steps of SAVE PRESET and LOAD PRESET, and a memory that makes no response (R171, R175, R180, R181). -/

namespace Sys2Proof.Safety

open Machine

/-! ### Tables that take their defaults one after another (R177) -/

section

variable (T D : Tables) (k : Nat)

theorem copyTable_lane : (T.copyTable D k).lane = if k = 1 then D.lane else T.lane := by
  unfold Tables.copyTable
  split <;> simp_all

theorem copyTable_regular : (T.copyTable D k).regular = if k = 2 then D.regular else T.regular := by
  unfold Tables.copyTable
  split <;> simp_all

theorem copyTable_bulletin : (T.copyTable D k).bulletin = if k = 3 then D.bulletin else T.bulletin := by
  unfold Tables.copyTable
  split <;> simp_all

theorem copyTable_urgent : (T.copyTable D k).urgent = if k = 4 then D.urgent else T.urgent := by
  unfold Tables.copyTable
  split <;> simp_all

theorem copyTable_names : (T.copyTable D k).names = if k = 5 then D.names else T.names := by
  unfold Tables.copyTable
  split <;> simp_all

theorem copyTable_neighbours : (T.copyTable D k).neighbours = if k = 6 then D.neighbours else T.neighbours := by
  unfold Tables.copyTable
  split <;> simp_all

theorem copyTable_cueLines : (T.copyTable D k).cueLines = if k = 7 then D.cueLines else T.cueLines := by
  unfold Tables.copyTable
  split <;> simp_all

theorem copyTable_site : (T.copyTable D k).site = if k = 8 then D.site else T.site := by
  unfold Tables.copyTable
  split <;> simp_all

end

/-- A table placed over tables already placed: all of them as placed at once. -/
theorem Placed.next {s u : State} {T D t : Tables} {k : Nat} (h : Placed s T u.tables) (frozen : u.frozen = s.frozen)
    (urgent : ∀ n : LaneNo, u.urgentOn n = s.urgentOn n) (timebase : u.timebase = s.timebase) (placed : Placed u (u.tables.copyTable D k) t) :
    Placed s (T.copyTable D k) t := by
  obtain ⟨lane, regular, bulletin, urgents, names, neighbours, cues, site⟩ := h
  obtain ⟨lane', regular', bulletin', urgents', names', neighbours', cues', site'⟩ := placed
  refine ⟨fun n => ?_, fun n i => ?_, fun n i => ?_, fun n i => ?_, ?_, ?_, ?_, ?_⟩
  · rw [lane' n, frozen, urgent, copyTable_lane, copyTable_lane, lane n]
    by_cases this : k = 1
    · simp only [if_pos this]
      cases s.urgentOn n <;> rfl
    · simp only [if_neg this, lane n]
      cases s.urgentOn n <;> cases s.frozen[n] <;> rfl
  · rw [regular' n i, urgent, copyTable_regular, copyTable_regular, regular n i]
    by_cases this : k = 2
    · simp only [if_pos this]
      cases s.urgentOn n <;> rfl
    · simp only [if_neg this, regular n i]
      cases s.urgentOn n <;> rfl
  · rw [bulletin' n i, urgent, copyTable_bulletin, copyTable_bulletin, bulletin n i]
    by_cases this : k = 3
    · simp only [if_pos this]
      cases s.urgentOn n <;> rfl
    · simp only [if_neg this, bulletin n i]
      cases s.urgentOn n <;> rfl
  · rw [urgents' n i, urgent, copyTable_urgent, copyTable_urgent, urgents n i]
    by_cases this : k = 4
    · simp only [if_pos this]
      cases s.urgentOn n <;> rfl
    · simp only [if_neg this, urgents n i]
      cases s.urgentOn n <;> rfl
  · rw [names', copyTable_names, copyTable_names, names]
  · rw [neighbours', copyTable_neighbours, copyTable_neighbours, neighbours]
  · rw [cues', copyTable_cueLines, copyTable_cueLines, cues]
  · rw [site', timebase, copyTable_site, copyTable_site, site]
    by_cases this : k = 8
    · simp only [if_pos this]
      by_cases stopped : s.timebase.mode = .stopped
      · simp only [if_pos stopped]
      · simp only [if_neg stopped]
    · simp only [if_neg this]
      by_cases stopped : s.timebase.mode = .stopped
      · simp only [if_pos stopped]
      · simp only [if_neg stopped]

theorem Placed.cueLines {s : State} {T t : Tables} (h : Placed s T t) : t.cueLines = T.cueLines := by
  obtain ⟨-, -, -, -, -, -, cues, -⟩ := h
  exact cues

theorem Placed.site {s : State} {T t : Tables} (h : Placed s T t) : t.site = if s.timebase.mode = .stopped then T.site else { T.site with
    role := s.tables.site.role, divisor := s.tables.site.divisor, outOffset := s.tables.site.outOffset, inOffset := s.tables.site.inOffset } := by
  obtain ⟨-, -, -, -, -, -, -, site⟩ := h
  exact site

theorem Placed.site_congr {s : State} {T T' t t' : Tables} (h : Placed s T t) (h' : Placed s T' t') (same : T.site = T'.site) : t.site = t'.site := by
  rw [h.site, h'.site, same]

theorem Placed.site_of_own {s : State} {T t : Tables} (h : Placed s T t) (own : T.site = s.tables.site) : t.site = s.tables.site := by
  rw [h.site, own]
  exact ite_self _

/-- A lane whose cue line goes from the modes of `old` to those of `new` (R110). -/
def recued (old new : Vector CueEntry 4) (n : LaneNo) (l : Lane) : Lane :=
  if new[n].mode = old[n].mode then l
  else { l with cue := { l.cue with train := .idle, phaseEnd := none, remaining := 0, followed := false, closing := false } }

theorem rewritten_eq (s : State) (T : Tables) (n : LaneNo) :
    rewritten s T n = held (recued s.tables.cueLines T.cueLines n s.lanes[n])
      (firesAt s.hold (holdoverReport s.monitor.state T.site) T.site.holdLimit) := rfl

theorem recued_pending (old new : Vector CueEntry 4) (n : LaneNo) (l : Lane) (b : Bool) :
    recued old new n { l with holdPending := b } = { recued old new n l with holdPending := b } := by
  unfold recued
  split <;> rfl

theorem recued_held (old new : Vector CueEntry 4) (n : LaneNo) (l : Lane) (fires : Bool) :
    recued old new n (held l fires) = held (recued old new n l) fires := by
  unfold recued
  split <;> rfl

/-- Of two changes of the cue lines' modes one alone is any. -/
theorem recued_recued {old mid new : Vector CueEntry 4} (one : new = mid ∨ mid = old) (n : LaneNo) (l : Lane) :
    recued mid new n (recued old mid n l) = recued old new n l := by
  rcases one with rfl | rfl
  · exact if_pos rfl
  · rw [show recued mid mid n l = l from if_pos rfl]

/-- A hold that follows the report stands under tables that leave the report. -/
theorem report_still {s : State} {T : Tables} (site : T.site = s.tables.site) (ok : HoldOk s) :
    reheld s T = s.hold ∧ firesAt s.hold (holdoverReport s.monitor.state T.site) T.site.holdLimit = false := by
  have report : holdoverReport s.monitor.state T.site = s.hold.episode := by
    rw [site]
    exact ok.1.symm
  rw [reheld, report]
  exact ⟨reported_same _ _, by rw [firesAt, Bool.and_not_self, Bool.false_and]⟩

/-- What table placements one after another leave of `base`, a part that is `s` but for its clock, its feed port and its answers: the tables are those of
`T` as placed at once, and the cue lines and the hold follow them. -/
structure Replaced (s base : State) (T : Tables) (u : State) : Prop where
  placed : Placed s T u.tables
  frame : u = { base with tables := u.tables, lanes := u.lanes, hold := u.hold }
  lane : ∀ n : LaneNo, ∃ b, u.lanes[n] = { recued s.tables.cueLines u.tables.cueLines n s.lanes[n] with holdPending := b }
  hold : HoldOk s → u.hold = reheld s u.tables ∧ (∀ n : LaneNo, u.lanes[n] = rewritten s u.tables n) ∧ HoldOk u

theorem PlacedAt.replaced {s base : State} {T : Tables} {u : State} (h : PlacedAt s base T u) : Replaced s base T u where
  placed := h.placed
  frame := by
    have hold : u.hold = reheld s u.tables := by rw [h.frame]
    rw [hold]
    exact h.frame
  lane n := ⟨_, (h.lane n).trans (rewritten_eq s u.tables n)⟩
  hold ok := ⟨by rw [h.frame], h.lane, h.holdOk ok⟩

theorem Replaced.beside {s base : State} {T : Tables} {u : State} (h : Replaced s base T u) (same : Beside s base) :
    u.frozen = s.frozen ∧ (∀ n : LaneNo, u.urgentOn n = s.urgentOn n) ∧ u.timebase = s.timebase ∧ u.monitor = s.monitor := by
  obtain ⟨c, f, x, rfl⟩ := same
  refine ⟨by rw [h.frame]; rfl, fun n => ?_, by rw [h.frame]; rfl, by rw [h.frame]; rfl⟩
  obtain ⟨b, lane⟩ := h.lane n
  rw [State.urgentOn, State.urgentOn, lane, recued]
  split <;> rfl

/-- One more table takes its defaults. -/
theorem Replaced.next {s base : State} {T : Tables} {u : State} (h : Replaced s base T u) (same : Beside s base) {k : Nat}
    (cues : T.cueLines = s.tables.cueLines ∨ T.cueLines = Tables.default.cueLines)
    (sites : T.site = s.tables.site ∨ T.site = Tables.default.site) :
    Replaced s base (T.copyTable Tables.default k) (u.placeDefault k) := by
  obtain ⟨frozen, urgent, timebase, monitor⟩ := h.beside same
  obtain ⟨placed, lane, holdOk, frame⟩ : PlacedAt u u (u.tables.copyTable Tables.default k) (u.placeDefault k) :=
    place_placedAt ⟨u.clock, u.feed, u.answers, rfl⟩ _
  have all : Placed s (T.copyTable Tables.default k) (u.placeDefault k).tables := h.placed.next frozen urgent timebase placed
  have oneCue : (u.placeDefault k).tables.cueLines = u.tables.cueLines ∨ u.tables.cueLines = s.tables.cueLines := by
    rw [all.cueLines, h.placed.cueLines, copyTable_cueLines]
    by_cases seven : k = 7
    · rw [if_pos seven]
      exact cues.symm.imp_left Eq.symm
    · exact .inl (if_neg seven)
  have oneSite : (u.placeDefault k).tables.site = u.tables.site ∨ u.tables.site = s.tables.site := by
    by_cases eight : k = 8
    · rcases sites with own | default
      · exact .inr (h.placed.site_of_own own)
      · exact .inl (all.site_congr h.placed (by rw [copyTable_site, if_pos eight, default]))
    · exact .inl (all.site_congr h.placed (by rw [copyTable_site, if_neg eight]))
  have recues (n : LaneNo) (l : Lane) := recued_recued oneCue n l
  refine ⟨all, ?_, fun n => ?_, fun ok => ?_⟩
  · rw [frame, h.frame]
  · obtain ⟨b, before⟩ := h.lane n
    have after := lane n
    rw [rewritten_eq, before, recued_pending, recues] at after
    exact ⟨_, after⟩
  · obtain ⟨hold, lanes, okU⟩ := h.hold ok
    have hold' : (u.placeDefault k).hold = reheld u (u.placeDefault k).tables := by rw [frame]
    rcases oneSite with still | own
    · obtain ⟨keeps, quiet⟩ := report_still (s := u) still okU
      have report : reheld s (u.placeDefault k).tables = reheld s u.tables := by rw [reheld, reheld, still]
      refine ⟨by rw [hold', keeps, hold, report], fun n => ?_, holdOk okU⟩
      rw [lane n, rewritten_eq, quiet, held_false, lanes n, rewritten_eq, recued_held, recues, rewritten_eq, still]
    · obtain ⟨keeps, quiet⟩ := report_still (s := s) own ok
      have started : u.hold = s.hold := hold.trans keeps
      refine ⟨by rw [hold', reheld, reheld, started, monitor], fun n => ?_, holdOk okU⟩
      rw [lane n, rewritten_eq, lanes n, rewritten_eq, quiet, held_false, recues, rewritten_eq, started, monitor]

theorem Replaced.all {s base : State} (same : Beside s base) (l : List Nat) {T : Tables} {u : State} (h : Replaced s base T u)
    (cues : T.cueLines = s.tables.cueLines ∨ T.cueLines = Tables.default.cueLines)
    (sites : T.site = s.tables.site ∨ T.site = Tables.default.site) :
    Replaced s base (l.foldl (fun T k => T.copyTable Tables.default k) T) (l.foldl State.placeDefault u) := by
  induction l generalizing T u with
  | nil => exact h
  | cons k l ih =>
    refine ih (h.next same cues sites) ?_ ?_
    · rw [copyTable_cueLines]
      split
      · exact .inr rfl
      · exact cues
    · rw [copyTable_site]
      split
      · exact .inr rfl
      · exact sites

/-- Tables that take their defaults at once, one at least. -/
theorem placeDefaults {s base : State} (same : Beside s base) (k : Nat) (l : List Nat) :
    Replaced s base ((k :: l).foldl (fun T k => T.copyTable Tables.default k) s.tables) ((k :: l).foldl State.placeDefault base) := by
  have first : Replaced s base (s.tables.copyTable Tables.default k) (base.placeDefault k) := by
    rw [← same.tables]
    exact (place_placedAt same _).replaced
  refine first.all same l ?_ ?_
  · rw [copyTable_cueLines]
    split
    · exact .inr rfl
    · exact .inl rfl
  · rw [copyTable_site]
    split
    · exact .inr rfl
    · exact .inl rfl

/-! ### A start-up load whose memory stops answering (R177) -/

theorem loadAccesses_iff (s : State) (p : StartUp) :
    s.loadAccesses p = true ↔ p.next < 13 ∧ (s.loadSource = .preset ∨ p.next = 0 ∨ 9 ≤ p.next) := by
  simp [State.loadAccesses, or_assoc]

theorem startUpSilent_result {s : State} (time : Micros) (k : Nat) {p : StartUp} (loading : s.preset.op = .startUp p) :
    let now := s.clockAt time
    let accesses := p.next < 13 ∧ (s.loadSource = .preset ∨ p.next = 0 ∨ 9 ≤ p.next)
    (¬accesses → exec (.presetAccessTimeout time k) s = .next now) ∧
    (accesses → ∃ t, exec (.presetAccessTimeout time k) s = .next t ∧
      t = { now with
        tables := t.tables, lanes := t.lanes, hold := t.hold, answers := (s.latch .presetFault).answers
        preset := {
          op := .startUp { p with next := 13, image := some (decide (9 ≤ p.next) && p.image.getD false) }
          condition := .silent, t7Placed := true } } ∧
      (p.next < 8 → Placed s
        (([1, 2, 3, 4, 5, 6, 7, 8].filter (fun i => decide (p.next < i))).foldl (fun T i => T.copyTable Tables.default i) s.tables) t.tables) ∧
      (8 ≤ p.next → t.tables = s.tables ∧ t.hold = s.hold ∧ t.lanes = s.lanes) ∧
      (∀ n : LaneNo, ∃ b, t.lanes[n] = { rewritten s t.tables n with holdPending := b }) ∧
      (HoldOk s → t.hold = reheld s t.tables ∧ (∀ n : LaneNo, t.lanes[n] = rewritten s t.tables n) ∧ HoldOk t)) := by
  intro now accesses
  have op : now.preset.op = .startUp p := loading
  have run : exec (.presetAccessTimeout time k) s = .next (now.startUpSilent p) := by
    refine congrArg Host.Outcome.next ?_
    show now.presetAccessTimeout k = _
    rw [State.presetAccessTimeout, op]
  refine ⟨fun none => ?_, fun all => ?_⟩
  · rw [run, State.startUpSilent, if_neg fun acts => none ((loadAccesses_iff now p).1 acts)]
  · let base := now.putAnswers (s.latch .presetFault).answers
    have same : Beside s base := (Beside.clockAt s time).putAnswers _
    have silent : now.startUpSilent p =
        (if p.next < 9 then (tablesFrom p.next).foldl State.placeDefault base else base).putPreset {
          op := .startUp { p with next := 13, image := some (decide (9 ≤ p.next) && p.image.getD false) }
          condition := .silent, t7Placed := true } := by
      rw [State.startUpSilent, if_pos ((loadAccesses_iff now p).2 all), State.latch_of_same (s := s) (t := now) rfl rfl]
    rw [silent] at run
    by_cases early : p.next < 8
    · obtain ⟨j, l, cons⟩ : ∃ j l, tablesFrom p.next = j :: l :=
        List.exists_cons_of_ne_nil (List.ne_nil_of_mem (a := 8) (by simp [tablesFrom, early]))
      have placed : ([1, 2, 3, 4, 5, 6, 7, 8].filter (fun i => decide (p.next < i))) = j :: l := cons
      have defaults := placeDefaults same j l
      rw [if_pos (by omega), cons] at run
      rw [placed]
      refine ⟨_, run, ?_, fun _ => defaults.placed, fun late => absurd late (by omega), fun n => ?_, defaults.hold⟩
      · exact congrArg (fun w : State => w.putPreset _) defaults.frame
      · obtain ⟨b, lane⟩ := defaults.lane n
        exact ⟨b, lane⟩
    · have kept : (if p.next < 9 then (tablesFrom p.next).foldl State.placeDefault base else base) = base := by
        split
        · have eight : p.next = 8 := by omega
          rw [eight]
          rfl
        · rfl
      rw [kept] at run
      refine ⟨_, run, rfl, fun more => absurd more early, fun _ => ⟨rfl, rfl, rfl⟩, fun n => ?_, fun ok => ?_⟩
      · refine ⟨s.lanes[n].holdPending, ?_⟩
        have still : rewritten s s.tables n = held s.lanes[n] (firesAt s.hold (holdoverReport s.monitor.state s.tables.site)
            s.tables.site.holdLimit) := congrArg (fun l => held l _) (if_pos rfl)
        exact congrArg (fun l : Lane => { l with holdPending := s.lanes[n].holdPending }) still.symm
      · obtain ⟨hold, lanes⟩ := reheld_still (T := s.tables) rfl rfl ok
        exact ⟨hold.symm, fun n => (lanes n).symm, ok⟩

/-! ### SAVE PRESET -/

/-- The places that the writes of a SAVE go to. -/
theorem saveWrite_places (m : PresetMemory) (l : List Byte) :
    m.saveWrite 0 l = { m with header := l } ∧ m.saveWrite 9 l = { m with flags := l } ∧ m.saveWrite 10 l = { m with header := l } ∧
      ∀ j : Fin 8, m.saveWrite (j.val + 1) l = { m with tables := m.tables.set j l } := by
  refine ⟨rfl, rfl, rfl, fun j => ?_⟩
  have table : j.val + 1 ≤ 8 := by omega
  rw [PresetMemory.saveWrite, if_neg (by omega), if_pos table]
  refine congrArg (fun v => { m with tables := v }) (Vector.ext fun i within => ?_)
  simp [Vector.getElem_setIfInBounds, Vector.getElem_set]

theorem headerRecord_false : headerRecord false = sealRecord [0x00] := rfl

theorem headerRecord_true : headerRecord true = sealRecord [0xA5] := rfl

theorem saveRecordWritten_result (time : Micros) (s : State) (v : Saving) (saving : s.preset.op = .saving v) (within : v.next ≤ 10) :
    let m : PresetMemory :=
      if v.next = 0 then { s.memory with header := sealRecord [0x00] }
      else if v.next = 10 then { s.memory with header := sealRecord [0xA5] }
      else if v.next = 9 then { s.memory with flags := sealRecord [s.protect.flags] }
      else { s.memory with
        tables := s.memory.tables.setIfInBounds (v.next - 1)
          (sealRecord (byteOf v.next :: (List.range (entryCount v.next)).flatMap (s.tables.entryBytes s.titles v.next))) }
    exec (.saveRecordWritten time) s = .next (
      if v.next < 10 then { s.clockAt time with
        memory := m, preset := { s.preset with op := .saving { v with next := v.next + 1 }, condition := .answering } }
      else { s.clockAt time with memory := m, preset := { s.preset with op := .idle, condition := .answering } }.reply v.reply .done []) := by
  intro m
  have written : s.memory.saveWrite v.next ((s.clockAt time).saveBytes v.next) = m := by
    rcases (by omega : v.next = 0 ∨ v.next = 10 ∨ v.next = 9 ∨ (1 ≤ v.next ∧ v.next ≤ 8)) with first | last | flags | table
    · rw [show m = { s.memory with header := sealRecord [0x00] } from if_pos first, PresetMemory.saveWrite, if_pos first, State.saveBytes,
        if_pos first, headerRecord_false]
    · rw [show m = { s.memory with header := sealRecord [0xA5] } from (if_neg (by omega)).trans (if_pos last), PresetMemory.saveWrite,
        if_neg (by omega), if_neg (by omega), if_neg (by omega), State.saveBytes, if_neg (by omega), if_neg (by omega), if_neg (by omega),
        headerRecord_true]
    · rw [show m = { s.memory with flags := sealRecord [s.protect.flags] } from
          (if_neg (by omega)).trans ((if_neg (by omega)).trans (if_pos flags)), PresetMemory.saveWrite, if_neg (by omega), if_neg (by omega),
        if_pos flags, State.saveBytes, if_neg (by omega), if_neg (by omega), if_pos flags, flagsRecord]
      rfl
    · obtain ⟨from_, upTo⟩ := table
      simp only [m]
      rw [if_neg (by omega), if_neg (by omega), if_neg (by omega), PresetMemory.saveWrite, if_neg (by omega), if_pos upTo, State.saveBytes,
        if_neg (by omega), if_pos upTo]
      rfl
  have op : (s.clockAt time).preset.op = .saving v := saving
  have run : (s.clockAt time).saveRecordWritten =
      if v.next < 10 then
        (((s.clockAt time).putMemory (s.memory.saveWrite v.next ((s.clockAt time).saveBytes v.next))).putCondition .answering).putOp
          (.saving { v with next := v.next + 1 })
      else (((((s.clockAt time).putMemory (s.memory.saveWrite v.next ((s.clockAt time).saveBytes v.next))).putCondition .answering).putOp
        .idle).reply v.reply .done []) := by
    rw [State.saveRecordWritten, op]
    rfl
  rw [written] at run
  exact congrArg Host.Outcome.next run

/-! ### LOAD PRESET -/

theorem reloadNext_eq (s : State) (v : Reload) :
    s.reloadNext v = if v.todo = [] ∧ v.flags = false then s.reloadDone v.reply else s.putOp (.reloading v) := by
  refine if_congr ?_ rfl rfl
  simp

theorem ite_not_swap {α : Type} (b : Bool) (x y : α) : (if (!b) = true then x else y) = if b then y else x := by
  cases b <;> rfl

/-- A step of a LOAD runs on the part at its instant, whose memory has answered. -/
theorem loadPresetStepDone_runs (time : Micros) {s : State} {v : Reload} (loading : s.preset.op = .reloading v) :
    exec (.loadPresetStepDone time) s = .next (
      let now := (s.clockAt time).putCondition .answering
      if v.headerRead then
        match v.todo with
        | k :: rest => now.reloadTable v k rest
        | [] => if v.flags then now.reloadFlags v else now.reloadDone v.reply
      else if headerValid s.memory.header then now.reloadNext { v with headerRead := true }
      else ((now.latch .presetFault).putOp .idle).reply v.reply .noPreset []) := by
  have op : (s.clockAt time).preset.op = .reloading v := loading
  refine congrArg Host.Outcome.next ?_
  show (s.clockAt time).loadPresetStepDone = _
  rw [State.loadPresetStepDone, op]
  rfl

/-- The preset controller stands beside a placement. -/
theorem place_putPreset (w : State) (p : Preset) (T : Tables) : (w.putPreset p).place T = (w.place T).putPreset p := by
  have keep : (w.putPreset p).keepFrozen ((w.putPreset p).keepRunning T) = w.keepFrozen (w.keepRunning T) := rfl
  rw [State.place, State.place, keep]
  have lanes : ((w.putPreset p).changeTables (w.keepFrozen (w.keepRunning T))).lanes = (w.changeTables (w.keepFrozen (w.keepRunning T))).lanes :=
    Vector.ext fun i within => (changeTables_rewritten (w.putPreset p) _ ⟨i, within⟩).trans (changeTables_rewritten w _ ⟨i, within⟩).symm
  refine (changeTables_reheld (w.putPreset p) _).trans ?_
  rw [lanes]
  exact (congrArg (fun x : State => x.putPreset p) (changeTables_reheld w _)).symm

theorem loadTable_result (time : Micros) (s : State) (v : Reload) (loading : s.preset.op = .reloading v) (k : Nat) (rest : List Nat)
    (header : v.headerRead = true) (todo : v.todo = k :: rest) :
    let now := s.clockAt time
    let idle : Preset := { s.preset with op := .idle, condition := .answering }
    let last := fun u : State => ({ u with preset := idle, answers := { u.answers with marker := false } }.reply v.reply .done [])
    let good := tableRecordGood k (s.memory.table k)
    let flagged := good = false ∧ v.lockClear = true
    ∃ u : State,
      Placed s (if good then s.tables.fromRecord k (s.memory.table k) else s.tables.copyTable Tables.default k) u.tables ∧
      (∀ n : LaneNo, u.lanes[n] = rewritten s u.tables n) ∧ (HoldOk s → HoldOk u) ∧
      u = { now with
        tables := u.tables, lanes := u.lanes, hold := reheld s u.tables
        answers := if good then s.answers else (s.latch .presetFault).answers
        protect := if flagged then { s.protect with flags := s.protect.flags ||| (1#8) <<< (k - 1) } else s.protect } ∧
      exec (.loadPresetStepDone time) s = .next (
        if rest = [] ∧ v.flags = false then last u
        else { u with preset := { s.preset with
          op := .reloading { v with todo := rest, defaulted := if flagged then v.defaulted ||| (1#8) <<< (k - 1) else v.defaulted }
          condition := .answering } }) := by
  intro now idle last good flagged
  let unit := if good then s.answers else (s.latch .presetFault).answers
  let put := { s.preset with condition := MemCondition.answering }
  have same : Beside s (now.putAnswers unit) := (Beside.clockAt s time).putAnswers _
  obtain ⟨placed, lane, holdOk, frame⟩ :=
    place_placedAt same (if good then s.tables.fromRecord k (s.memory.table k) else s.tables.copyTable Tables.default k)
  have run := loadPresetStepDone_runs time loading
  rw [header, todo] at run
  have latched : ((s.clockAt time).putCondition .answering).latchIf (!good) .presetFault = (now.putAnswers unit).putPreset put := by
    refine (latchIf_answers (s := s) (by rfl) (by rfl) _ _).trans ?_
    rw [ite_not_swap]
    rfl
  generalize placement : (now.putAnswers unit).place (if good then s.tables.fromRecord k (s.memory.table k)
    else s.tables.copyTable Tables.default k) = w at placed lane holdOk frame
  have protect : w.protect = s.protect := (congrArg State.protect frame :)
  have places : (((s.clockAt time).putCondition .answering).latchIf (!good) .presetFault).placeRecord k (s.memory.table k) = w.putPreset put := by
    rw [latched]
    rw [← placement]
    refine Eq.trans ?_ (place_putPreset (now.putAnswers unit) put _)
    rw [State.placeRecord]
    exact (apply_ite (fun T => ((now.putAnswers unit).putPreset put).place T) (good = true) _ _).symm
  let mark : BitVec 8 := if !good && v.lockClear then tableBit k else 0
  have step : exec (.loadPresetStepDone time) s = .next
      (((w.putPreset put).putProtect { (w.putPreset put).protect with flags := (w.putPreset put).protect.flags ||| mark }).reloadNext
        { v with todo := rest, defaulted := v.defaulted ||| mark }) := by
    refine run.trans (congrArg Host.Outcome.next ?_)
    exact congrArg (fun x : State => (x.putProtect { x.protect with flags := x.protect.flags ||| mark }).reloadNext
        { v with todo := rest, defaulted := v.defaulted ||| mark }) places
  have marks : mark = if flagged then (1#8) <<< (k - 1) else 0 := by
    refine if_congr ?_ rfl rfl
    simp [flagged]
  have flags : { s.protect with flags := s.protect.flags ||| mark } =
      if flagged then { s.protect with flags := s.protect.flags ||| (1#8) <<< (k - 1) } else s.protect := by
    rw [marks]
    split
    · rfl
    · exact congrArg (fun x => { s.protect with flags := x }) BitVec.or_zero
  have defaulted : v.defaulted ||| mark = if flagged then v.defaulted ||| (1#8) <<< (k - 1) else v.defaulted := by
    rw [marks]
    split
    · rfl
    · exact BitVec.or_zero
  have kept : (w.putPreset put).protect = s.protect := protect
  rw [kept, flags, defaulted, reloadNext_eq] at step
  refine ⟨w.putProtect (if flagged then { s.protect with flags := s.protect.flags ||| (1#8) <<< (k - 1) } else s.protect), placed, lane, holdOk,
    ?_, ?_⟩
  · exact congrArg (fun x : State => x.putProtect (if flagged then { s.protect with flags := s.protect.flags ||| (1#8) <<< (k - 1) }
      else s.protect)) frame
  · refine step.trans (congrArg Host.Outcome.next ?_)
    split <;> rfl

theorem loadHeader_result (time : Micros) (s : State) (v : Reload) (loading : s.preset.op = .reloading v) (unread : v.headerRead = false) :
    let now := s.clockAt time
    let idle : Preset := { s.preset with op := .idle, condition := .answering }
    let last := fun u : State => ({ u with preset := idle, answers := { u.answers with marker := false } }.reply v.reply .done [])
    (headerValid s.memory.header = true → exec (.loadPresetStepDone time) s = .next (
      if v.todo = [] ∧ v.flags = false then last now
      else { now with preset := { s.preset with op := .reloading { v with headerRead := true }, condition := .answering } })) ∧
    (headerValid s.memory.header = false → exec (.loadPresetStepDone time) s = .next (
      State.reply { now.latch .presetFault with preset := idle } v.reply .noPreset [])) := by
  intro now idle last
  have run := loadPresetStepDone_runs time loading
  simp only [unread, if_neg Bool.false_ne_true] at run
  refine ⟨fun valid => ?_, fun invalid => ?_⟩
  · rw [if_pos valid, reloadNext_eq] at run
    exact run
  · rw [invalid, if_neg Bool.false_ne_true, State.latch_of_same (s := now) (t := (s.clockAt time).putCondition .answering) rfl rfl] at run
    refine run.trans (congrArg Host.Outcome.next ?_)
    refine congrArg (fun u : State => u.reply v.reply .noPreset []) ?_
    rw [State.latch_of_same (s := now) (t := now) rfl rfl]
    rfl

theorem loadFlags_result (time : Micros) (s : State) (v : Reload) (loading : s.preset.op = .reloading v) (header : v.headerRead = true)
    (todo : v.todo = []) :
    let now := s.clockAt time
    let idle : Preset := { s.preset with op := .idle, condition := .answering }
    let last := fun u : State => ({ u with preset := idle, answers := { u.answers with marker := false } }.reply v.reply .done [])
    let good := recordGood 3 s.memory.flags
    exec (.loadPresetStepDone time) s = .next (
      if v.flags = false then last now
      else last { now with
        answers := if good then s.answers else (s.latch .presetFault).answers
        protect := { s.protect with flags := if good then byteAt s.memory.flags 0 ||| v.defaulted else 0xFF } }) := by
  intro now idle last good
  have run := loadPresetStepDone_runs time loading
  rw [header, todo] at run
  cases flags : v.flags with
  | false =>
    rw [flags] at run
    exact run
  | true =>
    rw [flags] at run
    have latched := latchIf_answers (s := s) (now := (s.clockAt time).putCondition .answering) rfl rfl (!good) .presetFault
    have unit : (if (!good) = true then (s.latch .presetFault).answers else s.answers) =
        if good then s.answers else (s.latch .presetFault).answers := ite_not_swap good _ _
    rw [unit] at latched
    have done : ((s.clockAt time).putCondition .answering).reloadFlags v =
        State.reloadDone (((s.clockAt time).putCondition .answering |>.putAnswers (if good then s.answers else (s.latch .presetFault).answers)).putProtect
          { s.protect with flags := if good then byteAt s.memory.flags 0 ||| v.defaulted else 0xFF }) v.reply := by
      refine (reloadNext_eq _ _).trans ((if_pos ⟨todo, rfl⟩).trans ?_)
      exact congrArg (fun w : State => (w.putProtect { w.protect with
        flags := if good then byteAt w.memory.flags 0 ||| v.defaulted else 0xFF }).reloadDone v.reply) latched
    exact run.trans (congrArg Host.Outcome.next done)

theorem cutWrite_zero (old new : List Byte) : cutWrite old new 0 = old := by
  rw [cutWrite, List.take_zero, List.drop_zero, List.nil_append]

/-- Settles O56. -/
theorem presetSteps : Obligations.PresetSteps := by
  refine ⟨saveRecordWritten_result, fun time s v loading => ?_, fun time k s => ?_, fun time s => ⟨fun other => ?_, fun other => ?_⟩⟩
  · intro now idle last
    exact ⟨loadHeader_result time s v loading, fun k rest header todo => loadTable_result time s v loading k rest header todo,
      loadFlags_result time s v loading⟩
  · intro now silent
    have run : exec (.presetAccessTimeout time k) s = .next (now.presetAccessTimeout k) := rfl
    refine ⟨fun op => ?_, fun v saving => ?_, saveWrite_places, fun v loading => ?_, fun f freezing => ?_, fun p loading => ?_⟩
    · have op : now.preset.op = .idle := op
      rw [run, State.presetAccessTimeout, op]
    · have op : now.preset.op = .saving v := saving
      refine ⟨cutWrite (s.memory.saveOld v.next) (now.saveBytes v.next) (cutSaveBytes false v.next k), ?_, fun last => ?_, fun first => ?_⟩
      · rw [run, State.presetAccessTimeout, op]
        refine congrArg Host.Outcome.next (congrArg (fun u : State => u.reply v.reply .noPreset []) ?_)
        rw [State.cutMemory, op]
        rfl
      · rw [last]
        exact cutWrite_zero s.memory.header _
      · rw [first]
        rcases Nat.eq_zero_or_pos k with rfl | begun
        · exact .inl (cutWrite_zero s.memory.header _)
        · exact .inr (headerValid_invalidMark _ (by show min k 2 ≠ 0; omega))
    · have op : now.preset.op = .reloading v := loading
      rw [run, State.presetAccessTimeout, op]
      refine congrArg Host.Outcome.next (congrArg (fun u : State => u.reply v.reply .noPreset []) ?_)
      rw [State.latch_of_same (s := s) (t := now) rfl rfl]
      rfl
    · have op : now.preset.op = .freezing f := freezing
      refine ⟨cutWrite s.memory.freeze[f.lane] (freezeRecord f.lane f.station f.zone) k, ?_⟩
      rw [run, State.presetAccessTimeout, op]
      refine congrArg Host.Outcome.next (congrArg (fun u : State => u.reply f.reply .noPreset []) ?_)
      rw [State.cutMemory, op]
      rfl
    · exact startUpSilent_result time k loading
  · have run : exec (.saveRecordWritten time) s = .next (s.clockAt time).saveRecordWritten := rfl
    rw [run, State.saveRecordWritten]
    split
    · next v saving => exact absurd saving (other v)
    · rfl
  · have run : exec (.loadPresetStepDone time) s = .next (s.clockAt time).loadPresetStepDone := rfl
    rw [run, State.loadPresetStepDone]
    split
    · next v loading => exact absurd loading (other v)
    · rfl

end Sys2Proof.Safety
end

section
/-! PROOF. A complete feed frame: what its outcome changes, the parse, the insertion and the forwarding (R131, R132, R137, R138, R139, R164). -/

namespace Sys2Proof.Safety

open Machine

/-! ### The answer unit as answers join it and events latch -/

/-- An answer unit whose queue has at most been added to, and whose mask, marker and pending restart stand. -/
def Grown (u v : AnswerUnit) : Prop :=
  u.queue <+: v.queue ∧ v.mask = u.mask ∧ v.marker = u.marker ∧ v.restartAt = u.restartAt

theorem Grown.self (u : AnswerUnit) : Grown u u := ⟨List.prefix_refl _, rfl, rfl, rfl⟩

theorem Grown.trans {u v w : AnswerUnit} (first : Grown u v) (second : Grown v w) : Grown u w := by
  obtain ⟨queue, mask, marker, restart⟩ := first
  obtain ⟨queue', mask', marker', restart'⟩ := second
  exact ⟨queue.trans queue', mask'.trans mask, marker'.trans marker, restart'.trans restart⟩

theorem Grown.join (u : AnswerUnit) (a : Answer) : Grown u (u.join a) := by
  refine ⟨?_, u.join_mask a, u.join_marker a, u.join_restartAt a⟩
  unfold AnswerUnit.join
  split
  · exact List.prefix_append _ _
  · exact List.prefix_refl _

theorem Grown.queueAnswer (s : State) (a : Answer) : Grown s.answers (s.queueAnswer a).answers := by
  unfold State.queueAnswer
  split
  · exact Grown.self _
  · exact Grown.join _ _

theorem Grown.latch (s : State) (e : Event) : Grown s.answers (s.latch e).answers := by
  unfold State.latch
  split
  · exact Grown.self _
  · dsimp only
    split
    · exact Grown.queueAnswer (s.putAnswers { s.answers with latches := s.answers.latches ||| e.bit }) _
    · exact Grown.self _

theorem Grown.latchAll (s : State) (l : List Event) : Grown s.answers (s.latchAll l).answers :=
  List.foldlRecOn (motive := fun t : State => Grown s.answers t.answers) l _ (Grown.self _) fun _ h e _ => h.trans (Grown.latch _ e)

/-- With every alert closed an event sets its latch alone. -/
theorem latch_closed {s : State} (closed : s.answers.mask = 0) (e : Event) :
    s.latch e = s.putAnswers { s.answers with latches := (s.latch e).answers.latches } := by
  unfold State.latch
  split
  · rfl
  · dsimp only
    rw [closed]
    simp

theorem latchAll_closed {s : State} (closed : s.answers.mask = 0) (l : List Event) :
    s.latchAll l = s.putAnswers { s.answers with latches := (s.latchAll l).answers.latches } := by
  induction l generalizing s with
  | nil => rfl
  | cons e l ih =>
    have first := latch_closed closed e
    have rest := ih (s := s.latch e) (by rw [first]; exact closed)
    show (s.latch e).latchAll l = s.putAnswers { s.answers with latches := ((s.latch e).latchAll l).answers.latches }
    rw [rest, first]
    rfl

/-- With every alert closed the latches that several events leave do not depend on the queue. -/
theorem latches_dropped {s : State} (closed : s.answers.mask = 0) (q : List Answer) (l : List Event) :
    ((s.putAnswers { s.answers with queue := q }).latchAll l).answers.latches = (s.latchAll l).answers.latches := by
  induction l generalizing s with
  | nil => rfl
  | cons e l ih =>
    have first := latch_closed closed e
    have same : ((s.putAnswers { s.answers with queue := q }).latch e) = (s.latch e).putAnswers { (s.latch e).answers with queue := q } := by
      unfold State.latch
      show (if s.latched e = true then _ else _) = _
      split
      · rfl
      · dsimp only
        show (if s.answers.mask.getLsbD e.number && _ then _ else _) = _
        rw [closed]
        simp
    show ((State.latch _ e).latchAll l).answers.latches = ((s.latch e).latchAll l).answers.latches
    rw [same]
    exact ih (by rw [first]; exact closed)

/-! ### What an outcome leaves, whatever the answer unit holds -/

/-- An operation that changes the feed monitor, the hold, the lanes and the latches of `s` as a report comes, with the outcome `bad` the newest of
the window, and so whatever the answer unit holds. -/
def Reports (s : State) (bad : Bool) (f : State → State) : Prop :=
  ∃ m h fires events, m.lostAt = s.monitor.lostAt ∧ m.window.getLast? = some bad ∧
    ∀ u, f (s.putAnswers u) = changedBy (s.putAnswers u) m h fires events

theorem Monitor.record_last (m : Monitor) (bad : Bool) : (m.record bad).window.getLast? = some bad := by
  simp [Monitor.record]

theorem Monitor.record_lostAt (m : Monitor) (bad : Bool) : (m.record bad).lostAt = m.lostAt := by
  unfold Monitor.record Monitor.makeRoom
  dsimp only
  split <;> rfl

theorem Reports.highCheck {s : State} {bad : Bool} {m : Monitor} (h : Hold) (events : List Event) (timer : m.lostAt = s.monitor.lostAt)
    (last : m.window.getLast? = some bad) : Reports s bad (fun u => (changedBy u m h false events).highCheck) := by
  have checked (u : AnswerUnit) := highCheck_changed (changedBy (s.putAnswers u) m h false events)
  simp only [changedBy_monitorField, changedBy_hold, changedBy_tables, changedBy_changedBy] at checked
  by_cases high : s.tables.site.highThreshold ≤ m.bad
  · exact ⟨{ m with state := .degraded }, reported h s.tables.site.holdoverOnDegraded s.tables.site.holdLimit,
      firesAt h s.tables.site.holdoverOnDegraded s.tables.site.holdLimit, events ++ [Event.feedDegraded], timer, last,
      fun u => (checked u).trans (if_pos high)⟩
  · exact ⟨m, h, false, events, timer, last, fun u => (checked u).trans (if_neg high)⟩

theorem Reports.recordOutcome (s : State) (complete bad : Bool) : Reports s bad (fun u => u.recordOutcome complete bad) := by
  have timer := Monitor.record_lostAt s.monitor bad
  have last := Monitor.record_last s.monitor bad
  obtain e | e | e : s.monitor.state = .good ∨ s.monitor.state = .degraded ∨ (s.monitor.state = .absent ∨ s.monitor.state = .lost) := by
    cases s.monitor.state <;> simp
  · obtain ⟨m, h, fires, events, timer', last', form⟩ := Reports.highCheck (s := s) s.hold [] timer last
    refine ⟨m, h, fires, events, timer', last', fun u => ?_⟩
    rw [← form u]
    exact (recordOutcome_good (s := s.putAnswers u) e complete bad).trans (congrArg State.highCheck (changedBy_monitor (s.putAnswers u) _).symm)
  · by_cases low : (s.monitor.record bad).bad ≤ s.tables.site.lowThreshold
    · exact ⟨{ s.monitor.record bad with state := .good }, reported s.hold false s.tables.site.holdLimit, false, [.feedRestored], timer, last,
        fun u => (recordOutcome_degraded (s := s.putAnswers u) e complete bad).trans (if_pos low)⟩
    · exact ⟨_, _, _, _, timer, last, fun u => ((recordOutcome_degraded (s := s.putAnswers u) e complete bad).trans (if_neg low)).trans
        (changedBy_monitor (s.putAnswers u) _).symm⟩
  · cases complete with
    | false =>
      exact ⟨_, _, _, _, timer, last, fun u => (recordOutcome_out (s := s.putAnswers u) e bad).trans (changedBy_monitor (s.putAnswers u) _).symm⟩
    | true =>
      obtain ⟨m, h, fires, events, timer', last', form⟩ :=
        Reports.highCheck (s := s) (bad := bad) (m := { s.monitor with state := .good, window := [bad], bad := [bad].count true })
          (reported s.hold false s.tables.site.holdLimit) (if s.monitor.state = .lost then [.feedRestored] else []) rfl rfl
      refine ⟨m, h, fires, events, timer', last', fun u => ?_⟩
      rw [← form u]
      exact recordOutcome_back (s := s.putAnswers u) e bad

theorem recordOutcome_last (s : State) (complete bad : Bool) : (s.recordOutcome complete bad).monitor.window.getLast? = some bad := by
  obtain ⟨m, h, fires, events, -, last, form⟩ := Reports.recordOutcome s complete bad
  have form : s.recordOutcome complete bad = changedBy s m h fires events := form s.answers
  rw [form, changedBy_monitorField]
  exact last

theorem recordOutcome_grown (s : State) (complete bad : Bool) : Grown s.answers (s.recordOutcome complete bad).answers := by
  obtain ⟨m, h, fires, events, -, -, form⟩ := Reports.recordOutcome s complete bad
  have form : s.recordOutcome complete bad = changedBy s m h fires events := form s.answers
  rw [form, changedBy_put]
  exact Grown.latchAll s events

/-- Another answer unit gives another answer unit, and nothing else. -/
theorem recordOutcome_putAnswers (s : State) (u : AnswerUnit) (complete bad : Bool) :
    ∃ v, (s.putAnswers u).recordOutcome complete bad = (s.recordOutcome complete bad).putAnswers v ∧ Grown u v := by
  obtain ⟨m, h, fires, events, -, -, form⟩ := Reports.recordOutcome s complete bad
  have own : s.recordOutcome complete bad = changedBy s m h fires events := form s.answers
  refine ⟨((s.putAnswers u).latchAll events).answers, ?_, Grown.latchAll (s.putAnswers u) events⟩
  dsimp only at form
  rw [form u, own, changedBy_put, changedBy_put]
  rfl

/-- With every alert closed, answers that have left the queue before an outcome have left what it leaves. -/
theorem recordOutcome_dropped {s : State} (closed : s.answers.mask = 0) (q : List Answer) (complete bad : Bool) :
    (s.putAnswers { s.answers with queue := q }).recordOutcome complete bad =
      (s.recordOutcome complete bad).putAnswers { (s.recordOutcome complete bad).answers with queue := q } ∧
    (s.recordOutcome complete bad).answers.queue = s.answers.queue := by
  obtain ⟨m, h, fires, events, -, -, form⟩ := Reports.recordOutcome s complete bad
  have own : s.recordOutcome complete bad = changedBy s m h fires events := form s.answers
  dsimp only at form
  have all := latchAll_closed closed events
  have all' := latchAll_closed (s := s.putAnswers { s.answers with queue := q }) closed events
  rw [latches_dropped closed] at all'
  rw [form, own, changedBy_put, changedBy_put, all, all']
  exact ⟨rfl, rfl⟩

/-! ### A frame completes -/

/-- The part as a complete frame is about to be judged: none is in progress, and the LOST timer restarts if a pattern ends the frame. -/
def begun (a : Arrival) (s : State) : State :=
  besides { s.feed with inProgress := none } (if a.frame.endsInPattern = true then some (s.clock + 100000) else s.monitor.lostAt) s

theorem begun_eq (a : Arrival) (s : State) :
    (if a.frame.endsInPattern = true then (s.putFeed { s.feed with inProgress := none }).restartLostTimer
      else s.putFeed { s.feed with inProgress := none }) = begun a s := by
  have timer : micros Config.lostMicros = 100000 := by decide
  unfold begun
  split
  · rw [State.restartLostTimer, timer]
    rfl
  · rfl

section

variable {a : Arrival} {s : State} {tN : Micros} (progress : s.feed.inProgress = some tN) (whole : a.frame.arrivable = true)

include progress whole

theorem frameComplete_eq :
    s.frameComplete a =
      let r := if a.frame.good = true then (begun a (s.clockAt a.time)).goodFrame a tN
        else ((begun a (s.clockAt a.time)).recordOutcome true true, a.frame)
      r.1.forward tN r.2 := by
  rw [State.frameComplete, progress]
  dsimp only
  rw [if_pos whole, State.completeFrame]
  dsimp only
  rw [begun_eq]

theorem frameComplete_good (good : a.frame.good = true) :
    s.frameComplete a = ((begun a (s.clockAt a.time)).goodFrame a tN).1.forward tN ((begun a (s.clockAt a.time)).goodFrame a tN).2 := by
  rw [frameComplete_eq progress whole, if_pos good]

theorem frameComplete_bad (bad : a.frame.good = false) :
    s.frameComplete a = ((begun a (s.clockAt a.time)).recordOutcome true true).forward tN a.frame := by
  rw [frameComplete_eq progress whole, if_neg (by simp [bad])]

end

theorem forwardDelay : micros Config.forwardMicros = 250 := by decide

/-- Settles O31. -/
theorem badFrameResult : Obligations.BadFrameResult := by
  intro a s tN progress whole bad now r
  have unit : Grown s.answers r.answers := recordOutcome_grown now true true
  obtain ⟨-, mask, marker, restart⟩ := unit
  refine ⟨s.frameComplete a, rfl, ?_, ?_, ?_⟩
  · rw [frameComplete_bad progress whole bad, begun, besides_recordOutcome, State.forward, forwardDelay]
    obtain ⟨m, h, v, u, outcome, -⟩ := OutcomeOf.recordOutcome now true true
    have outcome' : r = (((now.putMonitor m).putHold h).putLanes v).putAnswers u := outcome
    rw [outcome', outcome]
    rfl
  · rw [frameComplete_bad progress whole bad]
    exact recordOutcome_last ..
  · rw [frameComplete_bad progress whole bad, begun, besides_recordOutcome]
    exact ⟨mask, marker, restart⟩

end Sys2Proof.Safety
end

section
/-! PROOF. A good feed frame: its field through the parse and the insertion, and how it is forwarded (R132, R133, R137, R138, R139, R164). -/

namespace Sys2Proof.Machine

section

variable {P : State → Prop}

theorem AirFree.airOrders (f : AirFree P) (k : MessageKeep P) : AirOrderKeep P where
  startAir := f.startAir k
  stopAir := f.stopAir
  switchOn _ := f.lanes _
  switchOff _ := f.lanes _

end

end Sys2Proof.Machine

namespace Sys2Proof.Safety

open Machine

/-! ### No message touches the site clock and the feed port -/

/-- The part's clock and feed port read so. -/
def PortAt (c : Micros) (f : FeedPort) (s : State) : Prop := s.clock = c ∧ s.feed = f

section

variable {c : Micros} {f : FeedPort}

theorem PortAt.airFree : AirFree (PortAt c f) := ⟨fun _ h => h, fun _ h => h, fun _ h => h⟩

theorem PortAt.latch {s : State} (e : Event) (h : PortAt c f s) : PortAt c f (s.latch e) := by
  obtain ⟨u, latched⟩ := State.latch_eq s e
  rw [latched]
  exact h

theorem PortAt.feedFree : FeedFree (PortAt c f) := ⟨fun _ h => h, fun _ h => h, PortAt.latch⟩

theorem PortAt.message : MessageKeep (PortAt c f) where
  latch := PortAt.latch
  queueAnswer {s} a h := by rw [State.queueAnswer_eq]; exact h
  answers _ _ _ h := h
  recordOutcome := PortAt.feedFree.recordOutcome PortAt.airFree
  recent _ _ h := h
  titleZone _ _ _ _ h := PortAt.airFree.titleZone (fun _ h => h) _ _ _ h
  takeRecord := PortAt.airFree.takeRecord PortAt.latch
  sendRecord _ _ _ h := h

theorem PortAt.presetFree : PresetFree (PortAt c f) where
  changeTables := PortAt.airFree.changeTables (fun _ h => h) (fun _ h => h)
  protect _ h := h
  frozen _ h := h
  preset _ h := h
  memory _ h := h

end

/-- A good frame's handling, whatever its messages do, leaves the clock and the feed port. -/
theorem goodFrame_port (s : State) (a : Arrival) (tN : Micros) :
    (s.goodFrame a tN).1.clock = s.clock ∧ (s.goodFrame a tN).1.feed = s.feed :=
  PortAt.message.goodFrame (P := PortAt s.clock s.feed) (fun _ h => h)
    (PortAt.message.orders (PortAt.airFree.airOrders PortAt.message) PortAt.presetFree.taken) a tN ⟨rfl, rfl⟩

/-! ### The field through the parse and the insertion (R133, R136, R137) -/

theorem compact_length {field : List Byte} {p m : Nat} (whole : field.length = 64) (inside : p + m ≤ 64) : (compact field p m).length = 64 := by
  simp only [compact, List.length_append, List.length_take, List.length_drop, List.length_replicate]
  omega

/-- A parse keeps the field's 64 bytes, and its free space begins within them. -/
theorem parseFrom_whole (carrier : FeedNo) (tN : Micros) (fuel p : Nat) (q : Parse) (inside : p ≤ 64) (whole : q.field.length = 64)
    (free : ∀ n, q.free = some n → n ≤ 64) :
    (parseFrom carrier tN fuel p q).field.length = 64 ∧ ∀ n, (parseFrom carrier tN fuel p q).free = some n → n ≤ 64 := by
  induction fuel generalizing p q with
  | zero => exact ⟨whole, free⟩
  | succ fuel ih =>
    unfold parseFrom
    split
    · exact ⟨whole, fun n e => by cases e; exact le_rfl⟩
    · dsimp only
      split
      · exact ⟨whole, fun n e => by cases e; exact inside⟩
      split
      · exact ⟨whole, free⟩
      · next within =>
        split
        · exact ⟨whole, free⟩
        · split
          · exact ih _ _ inside (compact_length whole (by omega)) free
          · exact ih _ _ (by omega) whole free

theorem answerMessage_length (s : State) (a : Answer) : (s.answerMessage a).length = a.size := by
  simp [State.answerMessage, Answer.size]
  omega

/-- The answers that fit from a position within the field end within it. -/
theorem fitting_inside (s : State) {p : Nat} (inside : p ≤ 64) (l : List Answer) : p + ((fitting p l).flatMap s.answerMessage).length ≤ 64 := by
  induction l generalizing p with
  | nil => exact inside
  | cons a l ih =>
    unfold fitting
    split
    · next fits =>
      have rest := ih fits
      rw [List.flatMap_cons, List.length_append, answerMessage_length]
      omega
    · exact inside

theorem filledField_length (s : State) {field : List Byte} {p : Nat} (inside : p ≤ 64) (l : List Answer) :
    (s.filledField field p (fitting p l)).length = 64 := by
  have fits := fitting_inside s inside l
  simp only [State.filledField, List.length_append, List.length_take, List.length_replicate]
  omega

theorem filledField_take (s : State) {field : List Byte} {p : Nat} (inside : p ≤ field.length) (l : List Answer) :
    (s.filledField field p l).take p = field.take p := by
  simp only [State.filledField, List.append_assoc]
  rw [List.take_append_of_le_length (by simp [inside]), List.take_take, min_self]

theorem fitting_prefix (p : Nat) (l m : List Answer) : fitting p l <+: fitting p (l ++ m) := by
  induction l generalizing p with
  | nil => exact List.nil_prefix
  | cons a l ih =>
    rw [List.cons_append]
    unfold fitting
    split
    · exact (List.prefix_cons_inj a).2 (ih _)
    · exact List.nil_prefix

/-- The field that an insertion leaves. -/
def insertedField (s : State) (q : Parse) : List Byte :=
  match q.free with
  | none => q.field
  | some p => s.filledField q.field p (fitting p s.answers.queue)

theorem insertAnswers_field (s : State) (a : Arrival) (q : Parse) : (s.insertAnswers a q).2 = insertedField s q := by
  obtain ⟨part, field, free⟩ := q
  cases free <;> rfl

/-- The answers that an insertion takes from the queue. -/
def insertedAnswers (s : State) (q : Parse) : List Answer :=
  match q.free with
  | none => []
  | some p => fitting p s.answers.queue

theorem insertAnswers_state (s : State) (a : Arrival) (q : Parse) :
    (s.insertAnswers a q).1 =
      let t := (s.dropAnswers (insertedAnswers s q).length).outcomeAt a .afterInsertion
      if ((insertedAnswers s q).any Answer.ofRestart && t.answers.restartAt.isSome) = true then t.restart a.reset else t := by
  obtain ⟨part, field, free⟩ := q
  cases free <;> rfl

/-! ### Where the frame's outcome falls (R139) -/

theorem outcomeAt_here {a : Arrival} {here : OutcomePoint} (at' : a.outcomeAt = here) (good : a.frame.good = true) (s : State) :
    s.outcomeAt a here = s.recordOutcome true false := by
  rw [State.outcomeAt, if_pos at', good]
  rfl

theorem outcomeAt_elsewhere {a : Arrival} {here : OutcomePoint} (at' : a.outcomeAt ≠ here) (s : State) : s.outcomeAt a here = s := if_neg at'

theorem outcomeAt_grown (s : State) (a : Arrival) (here : OutcomePoint) : Grown s.answers (s.outcomeAt a here).answers := by
  unfold State.outcomeAt
  split
  · exact recordOutcome_grown _ _ _
  · exact Grown.self _

theorem outcomeAt_clock (s : State) (a : Arrival) (here : OutcomePoint) : (s.outcomeAt a here).clock = s.clock := by
  unfold State.outcomeAt
  split
  · exact (OutcomeOf.recordOutcome _ _ _).clock
  · rfl

theorem outcomeAt_tables (s : State) (a : Arrival) (here : OutcomePoint) : (s.outcomeAt a here).tables = s.tables := by
  unfold State.outcomeAt
  split
  · exact (OutcomeOf.recordOutcome _ _ _).tables
  · rfl

section

variable {a : Arrival} {s : State}

/-- With no restart pending none is taken in the frame. -/
theorem deadlineWithin_none (none : s.answers.restartAt = none) : s.deadlineWithin a = s := by
  rw [State.deadlineWithin, State.restartReached, none]
  simp

theorem insertAnswers_none (none : s.answers.restartAt = none) (q : Parse) :
    (s.insertAnswers a q).1 = (s.dropAnswers (insertedAnswers s q).length).outcomeAt a .afterInsertion := by
  rw [insertAnswers_state]
  have grown := outcomeAt_grown (s.dropAnswers (insertedAnswers s q).length) a .afterInsertion
  obtain ⟨-, -, -, restart⟩ := grown
  have still : (s.dropAnswers (insertedAnswers s q).length).answers.restartAt = .none := none
  dsimp only
  rw [restart, still, if_neg (by simp)]

/-- The insertion with the outcome at its point, where no restart is pending and the outcome did not come before the parse: it comes before or
after the answers leave the queue. -/
theorem inserted_outcome (good : a.frame.good = true) (none : s.answers.restartAt = none) (q : Parse) :
    let mid := s.outcomeAt a .beforeInsertion
    ((mid.insertAnswers a q).1.outcomeAt a .afterRestart) =
      match a.outcomeAt with
      | .beforeParse => s.dropAnswers (insertedAnswers s q).length
      | .beforeInsertion => (s.recordOutcome true false).dropAnswers (insertedAnswers (s.recordOutcome true false) q).length
      | .afterInsertion => (s.dropAnswers (insertedAnswers s q).length).recordOutcome true false
      | .afterRestart => (s.dropAnswers (insertedAnswers s q).length).recordOutcome true false := by
  obtain ⟨-, -, -, restart⟩ := outcomeAt_grown s a .beforeInsertion
  dsimp only
  rw [insertAnswers_none (restart.trans none)]
  cases at' : a.outcomeAt with
  | beforeParse => simp [State.outcomeAt, at']
  | beforeInsertion => simp [State.outcomeAt, at', good]
  | afterInsertion => simp [State.outcomeAt, at', good]
  | afterRestart => simp [State.outcomeAt, at', good]

/-- So the part is as the outcome alone leaves it but for the answer unit, whose mask, marker and lack of a restart stand. -/
theorem inserted_quiet (good : a.frame.good = true) (none : s.answers.restartAt = none) (q : Parse) :
    ∃ v, ((s.outcomeAt a .beforeInsertion).insertAnswers a q).1.outcomeAt a .afterRestart =
        (if a.outcomeAt = .beforeParse then s else s.recordOutcome true false).putAnswers v ∧
      v.restartAt = .none ∧ v.mask = s.answers.mask ∧ v.marker = s.answers.marker := by
  rw [inserted_outcome good none]
  cases at' : a.outcomeAt with
  | beforeParse => exact ⟨_, rfl, none, rfl, rfl⟩
  | beforeInsertion =>
    obtain ⟨-, mask, marker, restart⟩ := recordOutcome_grown s true false
    exact ⟨{ (s.recordOutcome true false).answers with
      queue := (s.recordOutcome true false).answers.queue.drop (insertedAnswers (s.recordOutcome true false) q).length },
      rfl, restart.trans none, mask, marker⟩
  | afterInsertion =>
    obtain ⟨v, form, -, mask, marker, restart⟩ :=
      recordOutcome_putAnswers s { s.answers with queue := s.answers.queue.drop (insertedAnswers s q).length } true false
    exact ⟨v, form, restart.trans none, mask, marker⟩
  | afterRestart =>
    obtain ⟨v, form, -, mask, marker, restart⟩ :=
      recordOutcome_putAnswers s { s.answers with queue := s.answers.queue.drop (insertedAnswers s q).length } true false
    exact ⟨v, form, restart.trans none, mask, marker⟩

end

/-! ### A restart whose DONE goes into the free space (R164) -/

/-- The part right after a restart: it is up to the feed monitor and the hold what the frame's outcome still leaves. -/
def JustRestarted (clock : Micros) (address : Byte) (T : Tables) (s : State) : Prop :=
  s.clock = clock ∧ s.siteAddress = address ∧ s.tables = T ∧ s.timebase = Timebase.reset ∧ (∀ n : LaneNo, s.lanes[n] = Lane.reset) ∧
    (∀ z : Zone, s.titles[z] = TitleRecord.empty) ∧ s.recentCues = [] ∧ s.answers.queue = [] ∧ s.answers.restartAt = none ∧
    s.preset.op = .startUp { next := 0, image := none, defaulted := 0 }

theorem justRestarted_restart (s : State) (env : ResetEnv) : JustRestarted s.clock env.address s.tables (s.restart env) := by
  refine ⟨rfl, rfl, rfl, rfl, fun n => ?_, fun z => ?_, rfl, rfl, rfl, rfl⟩
  · show (Vector.replicate 4 Lane.reset)[n] = _
    simp
  · show (Vector.replicate 16 TitleRecord.empty)[z] = _
    simp

theorem held_reset (fires : Bool) : held Lane.reset fires = Lane.reset := by cases fires <;> rfl

theorem JustRestarted.recordOutcome {c : Micros} {x : Byte} {T : Tables} {s : State} (closed : s.answers.mask = 0) (complete bad : Bool)
    (h : JustRestarted c x T s) : JustRestarted c x T (s.recordOutcome complete bad) := by
  obtain ⟨clock, address, tables, timebase, lanes, titles, recent, queue, restart, op⟩ := h
  obtain ⟨-, queue'⟩ := recordOutcome_dropped closed [] complete bad
  obtain ⟨-, -, -, restart'⟩ := recordOutcome_grown s complete bad
  obtain ⟨m, d, fires, events, -, -, form⟩ := Reports.recordOutcome s complete bad
  have form : s.recordOutcome complete bad = changedBy s m d fires events := form s.answers
  refine ⟨?_, ?_, ?_, ?_, fun n => ?_, ?_, ?_, queue'.trans queue, restart'.trans restart, ?_⟩
  case refine_5 => rw [form, changedBy_lane, lanes n, held_reset]
  all_goals
    rw [form, changedBy_put]
    assumption

theorem JustRestarted.outcomeAt {c : Micros} {x : Byte} {T : Tables} {s : State} (closed : s.answers.mask = 0) (a : Arrival) (here : OutcomePoint)
    (h : JustRestarted c x T s) : JustRestarted c x T (s.outcomeAt a here) := by
  unfold State.outcomeAt
  split
  · exact h.recordOutcome closed true _
  · exact h

/-- The DONE of a RESTART among the answers that fit into the free space takes the restart. -/
theorem inserted_restart {a : Arrival} {s : State} {q : Parse} {p : Nat} (free : q.free = some p) (pending : s.answers.restartAt.isSome = true)
    (done : ∃ x ∈ fitting p s.answers.queue, x.ofRestart = true) :
    JustRestarted s.clock a.reset.address s.tables (((s.outcomeAt a .beforeInsertion).insertAnswers a q).1.outcomeAt a .afterRestart) := by
  have joined : insertedAnswers (s.outcomeAt a .beforeInsertion) q = fitting p (s.outcomeAt a .beforeInsertion).answers.queue := by
    rw [insertedAnswers, free]
  obtain ⟨⟨more, queue⟩, -, -, restart⟩ := outcomeAt_grown s a .beforeInsertion
  have among : (insertedAnswers (s.outcomeAt a .beforeInsertion) q).any Answer.ofRestart = true := by
    obtain ⟨x, fits, own⟩ := done
    rw [joined, ← queue, List.any_eq_true]
    exact ⟨x, (fitting_prefix p _ more).subset fits, own⟩
  rw [insertAnswers_state]
  dsimp only
  generalize n : (insertedAnswers (s.outcomeAt a .beforeInsertion) q).length = count
  obtain ⟨-, -, -, restart'⟩ := outcomeAt_grown ((s.outcomeAt a .beforeInsertion).dropAnswers count) a .afterInsertion
  have still : ((s.outcomeAt a .beforeInsertion).dropAnswers count).answers.restartAt = s.answers.restartAt := restart
  have clock : (((s.outcomeAt a .beforeInsertion).dropAnswers count).outcomeAt a .afterInsertion).clock = s.clock :=
    (outcomeAt_clock _ _ _).trans (outcomeAt_clock s a _)
  have tables : (((s.outcomeAt a .beforeInsertion).dropAnswers count).outcomeAt a .afterInsertion).tables = s.tables :=
    (outcomeAt_tables _ _ _).trans (outcomeAt_tables s a _)
  rw [restart', still, among, pending, Bool.and_self, if_pos rfl, ← clock, ← tables]
  exact (justRestarted_restart _ a.reset).outcomeAt rfl a .afterRestart

/-! ### The frame as it is forwarded (R132) -/

theorem withField_good {f : FeedFrame} (good : f.good = true) (field : List Byte) : (f.withField field).good = true := by
  have format : frameFormat f.word = 1 := by
    simp only [FeedFrame.good, Bool.and_eq_true, beq_iff_eq] at good
    exact good.1
  simp [FeedFrame.good, FeedFrame.withField, FeedFrame.covered, format]

theorem arrivable_field {f : FeedFrame} (whole : f.arrivable = true) : f.anc.length = 64 := by
  simp only [FeedFrame.arrivable, Bool.and_eq_true, beq_iff_eq] at whole
  exact whole.1.2

/-- The insertion keeps the field's 64 bytes, and those before the free space. -/
theorem insertedField_whole (s : State) {q : Parse} (whole : q.field.length = 64) (inside : ∀ n, q.free = some n → n ≤ 64) :
    (insertedField s q).length = 64 ∧ (q.free = none → insertedField s q = q.field) ∧
      ∀ p, q.free = some p → (insertedField s q).take p = q.field.take p := by
  cases free : q.free with
  | none =>
    have same : insertedField s q = q.field := by rw [insertedField, free]
    exact ⟨by rw [same, whole], fun _ => same, nofun⟩
  | some p =>
    have filled : insertedField s q = s.filledField q.field p (fitting p s.answers.queue) := by rw [insertedField, free]
    have within : p ≤ 64 := inside p free
    rw [filled]
    refine ⟨filledField_length s within _, nofun, fun p' e => ?_⟩
    cases e
    exact filledField_take s (by rw [whole]; exact within) _

/-- Settles O32. -/
theorem goodFrameForwarded : Obligations.GoodFrameForwarded := by
  intro a s tN progress whole good now base q u
  have begins : begun a now = base := rfl
  obtain ⟨clock, feed⟩ := goodFrame_port base a tN
  have parsed : q.field.length = 64 ∧ ∀ n, q.free = some n → n ≤ 64 :=
    parseFrom_whole _ _ _ _ _ (Nat.zero_le 64) (arrivable_field whole) nofun
  obtain ⟨full, inside⟩ := parsed
  let mid := (q.part.state.outcomeAt a .beforeInsertion).deadlineWithin a
  have frame : (base.goodFrame a tN).2 = a.frame.withField (insertedField mid q) := congrArg a.frame.withField (insertAnswers_field mid a q)
  have state : (base.goodFrame a tN).1 = (mid.insertAnswers a q).1.outcomeAt a .afterRestart := rfl
  obtain ⟨length, stopped, before⟩ := insertedField_whole mid full inside
  refine ⟨s.frameComplete a, a.frame.withField (insertedField mid q), rfl, ?_⟩
  rw [frameComplete_good progress whole good, begins, frame]
  refine ⟨?_, rfl, rfl, length, withField_good good _, fun quiet => ?_, fun p free pending last done => ?_⟩
  · show ({ (base.goodFrame a tN).1.feed with
      forwards := (base.goodFrame a tN).1.feed.forwards ++
        [{ start := (base.goodFrame a tN).1.clock + micros Config.forwardMicros, span := (sdiff (base.goodFrame a tN).1.clock tN).toNat
           frame := a.frame.withField (insertedField mid q) }] } : FeedPort) = _
    rw [clock, feed, forwardDelay]
    rfl
  · have early : mid = q.part.state.outcomeAt a .beforeInsertion := by
      obtain ⟨-, -, -, restart⟩ := outcomeAt_grown q.part.state a .beforeInsertion
      exact deadlineWithin_none (restart.trans quiet)
    obtain ⟨v, form, restart, mask, marker⟩ := inserted_quiet good quiet q
    rw [← early, ← state] at form
    refine ⟨?_, ?_, ?_, ?_, stopped, before⟩
    · rw [form]
      rfl
    · rw [form]
      exact restart
    · rw [form]
      exact mask
    · rw [form]
      exact marker
  · have early : mid = q.part.state.outcomeAt a .beforeInsertion := by
      show State.deadlineWithin _ a = _
      rw [State.deadlineWithin, last]
      rfl
    have restarted := inserted_restart (a := a) free pending done
    rw [← early, ← state] at restarted
    exact restarted

/-! ### An empty field -/

/-- In an empty field the free space begins at once. -/
theorem parseField_empty {a : Arrival} (empty : byteAt a.frame.anc 0 = 0) (s : State) (tN : Micros) :
    s.parseField a tN = { part := { state := s, prompt := a.prompt }, field := a.frame.anc, free := some 0 } := by
  rw [State.parseField, parseFrom]
  simp [empty]

theorem outcomes_before {a : Arrival} (good : a.frame.good = true) (s : State) :
    (s.outcomeAt a .beforeParse).outcomeAt a .beforeInsertion =
      if a.outcomeAt = .beforeParse ∨ a.outcomeAt = .beforeInsertion then s.recordOutcome true false else s := by
  cases at' : a.outcomeAt <;> simp [State.outcomeAt, at', good]

/-- With an empty field, every alert closed and no restart pending, the answers that fit from byte 0 leave the queue, and the outcome is recorded
beside that. -/
theorem goodFrame_empty {a : Arrival} {s : State} (good : a.frame.good = true) (empty : byteAt a.frame.anc 0 = 0) (closed : s.answers.mask = 0)
    (quiet : s.answers.restartAt = none) (tN : Micros) :
    let r := s.recordOutcome true false
    let u := if a.outcomeAt = .beforeParse ∨ a.outcomeAt = .beforeInsertion then r else s
    s.goodFrame a tN =
      (r.putAnswers { r.answers with queue := s.answers.queue.drop (fitting 0 s.answers.queue).length },
        a.frame.withField (u.filledField a.frame.anc 0 (fitting 0 s.answers.queue))) := by
  intro r u
  obtain ⟨-, -, -, restart⟩ := outcomeAt_grown s a .beforeParse
  have pending : (s.outcomeAt a .beforeParse).answers.restartAt = none := restart.trans quiet
  obtain ⟨-, -, -, restart'⟩ := outcomeAt_grown (s.outcomeAt a .beforeParse) a .beforeInsertion
  have queue : r.answers.queue = s.answers.queue := (recordOutcome_dropped closed [] true false).2
  have dropped (q : List Answer) := (recordOutcome_dropped closed q true false).1
  have mid : (s.outcomeAt a .beforeParse).outcomeAt a .beforeInsertion = u := outcomes_before good s
  have midQueue : u.answers.queue = s.answers.queue := by
    show (if _ then _ else _ : State).answers.queue = _
    split
    · exact queue
    · rfl
  refine Prod.ext ?_ ?_
  · have form := inserted_outcome good pending ((s.outcomeAt a .beforeParse).parseField a tN)
    rw [State.goodFrame, parseField_empty empty, deadlineWithin_none (restart'.trans pending)]
    rw [parseField_empty empty] at form
    refine form.trans ?_
    cases at' : a.outcomeAt with
    | beforeParse =>
      rw [outcomeAt_here at' good]
      show r.dropAnswers (fitting 0 r.answers.queue).length = _
      rw [State.dropAnswers, queue]
    | beforeInsertion =>
      rw [outcomeAt_elsewhere (by rw [at']; nofun)]
      show r.dropAnswers (fitting 0 r.answers.queue).length = _
      rw [State.dropAnswers, queue]
    | afterInsertion =>
      rw [outcomeAt_elsewhere (by rw [at']; nofun)]
      exact dropped _
    | afterRestart =>
      rw [outcomeAt_elsewhere (by rw [at']; nofun)]
      exact dropped _
  · rw [State.goodFrame, parseField_empty empty, deadlineWithin_none (restart'.trans pending), mid, ← midQueue]
    rfl

/-- Settles O33. -/
theorem emptyFieldTakesAnswers : Obligations.EmptyFieldTakesAnswers := by
  intro a s tN progress whole good empty closed quiet now base r u written
  have begins : begun a now = besides { now.feed with inProgress := none } base.monitor.lostAt base := rfl
  have message : (if a.outcomeAt = .beforeParse ∨ a.outcomeAt = .beforeInsertion then (begun a now).recordOutcome true false
      else begun a now).answerMessage = u.answerMessage := by
    rw [begins, besides_recordOutcome, ← apply_ite (besides _ _)]
    rfl
  obtain ⟨m, h, v, w, outcome, timer⟩ := OutcomeOf.recordOutcome base true false
  have outcome : r = (((base.putMonitor m).putHold h).putLanes v).putAnswers w := outcome
  have after : (begun a now).recordOutcome true false = r.putFeed { now.feed with inProgress := none } := by
    rw [begins, besides_recordOutcome, ← timer]
    show besides _ _ r = _
    rw [outcome]
    rfl
  let filled := u.filledField a.frame.anc 0 (fitting 0 s.answers.queue)
  have filling : (if a.outcomeAt = .beforeParse ∨ a.outcomeAt = .beforeInsertion then (begun a now).recordOutcome true false
      else begun a now).filledField a.frame.anc 0 (fitting 0 s.answers.queue) = filled := by
    unfold filled State.filledField
    rw [message]
  have handled : (begun a now).goodFrame a tN =
      ((r.putFeed { now.feed with inProgress := none }).putAnswers
        { r.answers with queue := s.answers.queue.drop (fitting 0 s.answers.queue).length }, a.frame.withField filled) := by
    refine (goodFrame_empty (s := begun a now) good empty closed quiet tN).trans ?_
    rw [after, ← filling, after]
    rfl
  refine ⟨s.frameComplete a, { start := now.clock + 250, span := (sdiff now.clock tN).toNat, frame := a.frame.withField filled }, rfl, ?_, ?_, ?_⟩
  · rw [frameComplete_good progress whole good, handled, State.forward, forwardDelay, outcome]
    rfl
  · rfl
  · rw [frameComplete_good progress whole good, handled, outcome]
    rfl

end Sys2Proof.Safety
end

section
/-! PROOF. The parse of a field: what leaves it, and what each kind of message does (R133 to R136, R145, R184, R185). -/

namespace Sys2Proof.Safety

open Machine

/-! ### A message leaves the field (R136) -/

theorem byteAt_append (l m : List Byte) (i : Nat) : byteAt (l ++ m) i = if i < l.length then byteAt l i else byteAt m (i - l.length) := by
  simp only [byteAt, List.getD_eq_getElem?_getD, List.getElem?_append]
  split <;> rfl

theorem byteAt_replicate (n i : Nat) : byteAt (List.replicate n 0) i = 0 := by
  simp only [byteAt, List.getD_eq_getElem?_getD, List.getElem?_replicate]
  split <;> rfl

theorem byteAt_take {l : List Byte} {i n : Nat} (before : i < n) : byteAt (l.take n) i = byteAt l i := by
  simp only [byteAt, List.getD_eq_getElem?_getD, List.getElem?_take, before, if_true]

theorem byteAt_drop (l : List Byte) (n i : Nat) : byteAt (l.drop n) i = byteAt l (n + i) := by
  simp only [byteAt, List.getD_eq_getElem?_getD, List.getElem?_drop]

/-- Of a field of 64 bytes: the bytes before the ones that leave stay, those behind move toward byte 0, and zeros come in at the end. -/
theorem compact_bytes {field : List Byte} {p m : Nat} (whole : field.length = 64) (inside : p + m ≤ 64) :
    (∀ i, i < p → byteAt (compact field p m) i = byteAt field i) ∧
    (∀ i, p ≤ i → i < 64 - m → byteAt (compact field p m) i = byteAt field (i + m)) ∧
    (∀ i, 64 - m ≤ i → byteAt (compact field p m) i = 0) := by
  have front : (field.take p).length = p := by simp; omega
  have moved : (field.take p ++ field.drop (p + m)).length = 64 - m := by simp; omega
  refine ⟨fun i before => ?_, fun i behind within => ?_, fun i last => ?_⟩
  · rw [compact, byteAt_append, if_pos (by omega), byteAt_append, if_pos (by omega), byteAt_take before]
  · rw [compact, byteAt_append, if_pos (by omega), byteAt_append, if_neg (by omega), byteAt_drop, front]
    congr 1
    omega
  · rw [compact, byteAt_append, if_neg (by omega), byteAt_replicate]

/-- A message that leaves the field gives way to what stands behind it. -/
theorem compact_append (pre m rest : List Byte) : compact (pre ++ (m ++ rest)) pre.length m.length = pre ++ (rest ++ List.replicate m.length 0) := by
  have behind : (pre ++ (m ++ rest)).drop (pre.length + m.length) = rest := by
    rw [← List.drop_drop, List.drop_left, List.drop_left]
  rw [compact, behind, List.take_left, List.append_assoc]

/-! ### The parse over messages, each taken (R133, R135) -/

/-- Of a message's kinds only those of R184 are taken. -/
theorem takeMessage_unknown {k : Byte} (cue : k ≠ kindCue) (title : k ≠ kindTitle) (order : k ≠ kindOrder) (answer : k ≠ kindAnswer)
    (carrier : FeedNo) (tN : Micros) (body : List Byte) (c : Chosen) : takeMessage carrier tN k body c = none := by
  rw [takeMessage, if_neg cue, if_neg title, if_neg order, if_neg answer]

theorem messageBytes_length (m : Byte × List Byte) : (messageBytes m).length = 2 + m.2.length := by
  simp [messageBytes]
  omega

theorem byteOf_toNat {n : Nat} (small : n < 256) : (byteOf n).toNat = n := by
  rw [byteOf, BitVec.toNat_ofNat]
  exact Nat.mod_eq_of_lt small

section

variable (carrier : FeedNo) (tN : Micros)

/-- The parse at a message that it takes. -/
theorem parseFrom_message {m : Byte × List Byte} {pre rest : List Byte} {c c' : Chosen} {consumed : Bool} (fuel : Nat)
    (whole : (pre ++ (messageBytes m ++ rest)).length = 64) (taken : takeMessage carrier tN m.1 m.2 c = some (c', consumed)) :
    parseFrom carrier tN (fuel + 1) pre.length { part := c, field := pre ++ (messageBytes m ++ rest), free := none } =
      if consumed = true then
        parseFrom carrier tN fuel pre.length
          { part := c', field := pre ++ (rest ++ List.replicate (messageBytes m).length 0), free := none }
      else
        parseFrom carrier tN fuel (pre ++ messageBytes m).length { part := c', field := pre ++ (messageBytes m ++ rest), free := none } := by
  have length := messageBytes_length m
  simp only [List.length_append] at whole
  have kind : byteAt (pre ++ (messageBytes m ++ rest)) pre.length = m.1 := by
    rw [byteAt_append, if_neg (by omega), Nat.sub_self]
    rfl
  have count : byteAt (pre ++ (messageBytes m ++ rest)) (pre.length + 1) = byteOf m.2.length := by
    rw [byteAt_append, if_neg (by omega), Nat.add_sub_cancel_left]
    rfl
  have size : 2 + (byteAt (pre ++ (messageBytes m ++ rest)) (pre.length + 1)).toNat = (messageBytes m).length := by
    rw [count, byteOf_toNat (by omega), length]
  have body : ((pre ++ (messageBytes m ++ rest)).drop (pre.length + 2)).take ((messageBytes m).length - 2) = m.2 := by
    rw [← List.drop_drop, List.drop_left, length, Nat.add_sub_cancel_left]
    exact List.take_left
  have known : ¬m.1 = 0 := by
    intro zero
    rw [zero, takeMessage_unknown (by decide) (by decide) (by decide) (by decide)] at taken
    cases taken
  rw [parseFrom, if_neg (by omega)]
  dsimp only
  rw [kind, if_neg known, size, if_neg (by omega), body, taken, compact_append, List.length_append]

/-- The parse takes messages in field order, and leaves those that stay, with what stood behind them moved up against them and zeros behind it. -/
theorem parseFrom_messages {ms kept : List (Byte × List Byte)} {pre rest : List Byte} {c c' : Chosen} (fuel : Nat)
    (whole : (pre ++ (ms.flatMap messageBytes ++ rest)).length = 64) (taken : takeAll carrier tN c ms = some (c', kept)) :
    parseFrom carrier tN (fuel + ms.length) pre.length { part := c, field := pre ++ (ms.flatMap messageBytes ++ rest), free := none } =
      parseFrom carrier tN fuel (pre ++ kept.flatMap messageBytes).length
        { part := c'
          field := pre ++ (kept.flatMap messageBytes ++
            (rest ++ List.replicate ((ms.flatMap messageBytes).length - (kept.flatMap messageBytes).length) 0))
          free := none } ∧
    (kept.flatMap messageBytes).length ≤ (ms.flatMap messageBytes).length := by
  induction ms generalizing pre rest c kept with
  | nil =>
    cases taken
    simp
  | cons m ms ih =>
    unfold takeAll at taken
    split at taken
    · cases taken
    next c1 consumed one =>
    obtain ⟨⟨c2, kept1⟩, others, e⟩ := Option.map_eq_some_iff.1 taken
    cases e
    have first := parseFrom_message carrier tN (rest := ms.flatMap messageBytes ++ rest) (fuel + ms.length)
      (by simpa [List.append_assoc] using whole) one
    have joined : (m :: ms).flatMap messageBytes = messageBytes m ++ ms.flatMap messageBytes := List.flatMap_cons ..
    rw [joined, List.append_assoc, List.length_cons, ← Nat.add_assoc, first]
    rw [joined] at whole
    cases consumed with
    | true =>
      have then' := ih (pre := pre) (rest := rest ++ List.replicate (messageBytes m).length 0)
        (by simp only [List.length_append, List.length_replicate] at whole ⊢; omega) others
      obtain ⟨parsed, fewer⟩ := then'
      rw [if_pos rfl, List.append_assoc, parsed]
      simp only [if_true, List.append_assoc, List.replicate_append_replicate, List.length_append]
      refine ⟨?_, by omega⟩
      congr 6
      omega
    | false =>
      have then' := ih (pre := pre ++ messageBytes m) (rest := rest)
        (by simpa only [List.append_assoc] using whole) others
      obtain ⟨parsed, fewer⟩ := then'
      rw [if_neg (by simp), ← List.append_assoc pre, parsed]
      simp only [Bool.false_eq_true, if_false, List.append_assoc, List.length_append, List.flatMap_cons]
      refine ⟨?_, by omega⟩
      congr 7
      omega

end

/-- A message takes two bytes and more, so a field holds no more than half as many as it has bytes. -/
theorem messages_length (ms : List (Byte × List Byte)) : 2 * ms.length ≤ (ms.flatMap messageBytes).length := by
  induction ms with
  | nil => exact le_rfl
  | cons m ms ih =>
    rw [List.flatMap_cons, List.length_append, messageBytes_length, List.length_cons]
    omega

/-! ### Where the parse ends (R133) -/

section

variable (carrier : FeedNo) (tN : Micros) {fuel : Nat} {front back : List Byte} {c : Chosen}

theorem parseFrom_free (zero : byteAt back 0 = 0) :
    parseFrom carrier tN (fuel + 1) front.length { part := c, field := front ++ back, free := none } =
      { part := c, field := front ++ back, free := some front.length } := by
  rw [parseFrom]
  split
  · next ends => rw [ends]
  · have kind : byteAt (front ++ back) front.length = 0 := by
      rw [byteAt_append, if_neg (by omega), Nat.sub_self, zero]
    dsimp only
    rw [kind, if_pos rfl]

theorem parseFrom_stops (whole : (front ++ back).length = 64) (begins : byteAt back 0 ≠ 0)
    (stops : front.length = 63 ∨ 64 < front.length + (2 + (byteAt back 1).toNat) ∨
      takeMessage carrier tN (byteAt back 0) ((back.drop 2).take (2 + (byteAt back 1).toNat - 2)) c = none) :
    parseFrom carrier tN (fuel + 1) front.length { part := c, field := front ++ back, free := none } =
      { part := c, field := front ++ back, free := none } := by
  have more : ¬front.length = 64 := by
    intro ends
    have nothing : back = [] := List.length_eq_zero_iff.1 (by rw [List.length_append] at whole; omega)
    rw [nothing] at begins
    exact begins rfl
  have at' (i : Nat) : byteAt (front ++ back) (front.length + i) = byteAt back i := by
    rw [byteAt_append, if_neg (by omega), Nat.add_sub_cancel_left]
  have kind : byteAt (front ++ back) front.length = byteAt back 0 := at' 0
  rw [parseFrom, if_neg more]
  dsimp only
  rw [kind, if_neg begins, at' 1, ← List.drop_drop, List.drop_left]
  split
  · rfl
  · next within =>
    rw [(stops.resolve_left fun e => within (.inl e)).resolve_left fun e => within (.inr e)]

end

/-! ### What a message of each kind does (R133 to R135) -/

section

variable (carrier : FeedNo) (tN : Micros) (body : List Byte) (c : Chosen)

theorem takeMessage_cue : takeMessage carrier tN kindCue body c = (CueMsg.parse body carrier tN).map (fun m => (c.takeCue m, false)) := if_pos rfl

theorem takeMessage_title :
    takeMessage carrier tN kindTitle body c = (TitleMsg.parse body).map (fun m => ({ c with state := c.state.takeTitle m }, false)) := rfl

theorem takeMessage_answer : takeMessage carrier tN kindAnswer body c = some (c, false) := rfl

theorem takeMessage_order_short (short : body.length < 3) : takeMessage carrier tN kindOrder body c = none := if_pos short

theorem takeMessage_order (target tag code : Byte) (args : List Byte) :
    takeMessage carrier tN kindOrder (target :: tag :: code :: args) c =
      match c.state.recipient target with
      | none => some (c, false)
      | some answered => some ({ c with state := c.state.handOrder code.toNat args { tag := tag, answered := answered } }, answered) := by
  have long : ¬(target :: tag :: code :: args).length < 3 := by simp
  exact (if_neg (by decide)).trans ((if_neg (by decide)).trans ((if_pos rfl).trans (if_neg long)))

end

theorem recipient_all (s : State) : s.recipient 255 = some false := if_pos rfl

theorem recipient_other {s : State} {target : Byte} (one : target ≠ 255) :
    s.recipient target = if s.listenOnly = false ∧ target = s.siteAddress then some true else none := by
  rw [State.recipient, if_neg one]
  cases s.listenOnly <;> simp

/-- The order unit does with an order's code what the command of that code does. -/
theorem orderCommands_run {k : Nat} {c : OrderMsg → Instr} (listed : orderCommands[k]? = some c) :
    ∃ run, orderOfCode (k + 1) = some run ∧ ∀ o s, exec (c o) s = .next (s.takeOrder o run) := by
  have inside : k < orderCommands.length := (List.getElem?_eq_some_iff.1 listed).1
  have count : orderCommands.length = 19 := rfl
  rw [count] at inside
  interval_cases k <;> cases listed <;> exact ⟨_, rfl, fun _ _ => rfl⟩

/-- Settles O34. -/
theorem compactionMovesBytes : Obligations.CompactionMovesBytes := by
  refine ⟨fun field p m whole inside => ⟨compact_length whole inside, compact_bytes whole inside⟩, ?_, ?_, ?_⟩
  · intro carrier tN c c' ms kept tail whole taken parsed front back size
    obtain ⟨all, fewer⟩ := parseFrom_messages carrier tN (pre := []) (64 - ms.length) whole taken
    have few := messages_length ms
    rw [List.length_append] at whole
    have fuel : 64 - ms.length = (63 - ms.length) + 1 := by omega
    have zeros : (ms.flatMap messageBytes).length - front.length = 64 - front.length - tail.length := by omega
    rw [Nat.sub_add_cancel (by omega), fuel] at all
    have ends : parsed = parseFrom carrier tN (63 - ms.length + 1) front.length { part := c', field := front ++ back, free := none } := by
      refine all.trans ?_
      show parseFrom _ _ _ front.length { part := c', field := front ++ (tail ++ List.replicate (_ - front.length) 0), free := none } = _
      rw [zeros]
    have full : (front ++ back).length = 64 := by
      have : front.length ≤ (ms.flatMap messageBytes).length := fewer
      simp only [back, List.length_append, List.length_replicate]
      omega
    exact ⟨fun zero => ends.trans (parseFrom_free carrier tN zero), fun begins stops => ends.trans (parseFrom_stops carrier tN full begins stops)⟩
  · intro carrier tN body c
    refine ⟨fun k cue title order answer => takeMessage_unknown cue title order answer .., takeMessage_answer .., fun other => ?_, ?_, ?_, ?_, ?_⟩
    · rw [takeMessage_cue, CueMsg.parse, if_neg other]
      rfl
    · intro num kind m1 m2 f1 f2 six
      have short : frameNumber (f1 ++ f2) = (f1 ++ f2).setWidth 12 := (BitVec.setWidth_eq_extractLsb' (by decide)).symm
      rw [takeMessage_cue, six, ← short]
      rfl
    · intro m1 m2 n text given
      have form : (3 ≤ body.length ∧ n.toNat ≤ 45 ∧ body.length = 3 + n.toNat) ↔ (n.toNat ≤ 45 ∧ text.length = n.toNat) := by
        rw [given, List.length_cons, List.length_cons, List.length_cons]
        omega
      rw [takeMessage_title, TitleMsg.parse, given]
      rw [given] at form
      by_cases whole : n.toNat ≤ 45 ∧ text.length = n.toNat
      · rw [if_pos whole]
        exact congrArg (Option.map _) (if_pos (form.2 whole))
      · rw [if_neg whole]
        exact congrArg (Option.map _) (if_neg (mt form.1 whole))
    · intro short
      refine ⟨?_, takeMessage_order_short carrier tN body c short⟩
      rw [takeMessage_title, TitleMsg.parse, if_neg (by omega)]
      rfl
    · intro target tag code args given
      rw [given, takeMessage_order]
      by_cases all : target = 255
      · rw [if_pos all, all, recipient_all]
      · rw [if_neg all, recipient_other all]
        by_cases own : c.state.listenOnly = false ∧ target = c.state.siteAddress
        · rw [if_pos own, if_pos own]
        · rw [if_neg own, if_neg own]
  · intro k c o s listed own
    obtain ⟨run, code, runs⟩ := orderCommands_run listed
    rw [runs, State.handOrder, code, State.takeOrder]
    dsimp only
    rcases own with all | ⟨speaks, own⟩
    · rw [all, recipient_all]
      rfl
    · have one : o.target ≠ 255 := by
        intro all
        rw [own] at all
        simp [State.listenOnly, all] at speaks
      rw [recipient_other one, if_pos ⟨speaks, own⟩, decide_eq_true one]

end Sys2Proof.Safety
end

section
/-! PROOF. No order changes a protected table, nor, under the lock, a protect flag; under the lock and GUARD no frame does (R165 to R169). -/

namespace Sys2Proof.Safety

open Machine

/-! ### What does not touch the tables, the protection and the GUARD line -/

/-- A property of the tables, the protection and the GUARD line. -/
def Protects (R : Tables → Protect → Bool → Prop) (s : State) : Prop := R s.tables s.protect s.guard

section

variable {R : Tables → Protect → Bool → Prop}

theorem Protects.airFree : AirFree (Protects R) := ⟨fun _ h => h, fun _ h => h, fun _ h => h⟩

theorem Protects.latch {s : State} (e : Event) (h : Protects R s) : Protects R (s.latch e) := by
  obtain ⟨u, latched⟩ := State.latch_eq s e
  rw [latched]
  exact h

theorem Protects.feedFree : FeedFree (Protects R) := ⟨fun _ h => h, fun _ h => h, Protects.latch⟩

theorem Protects.message : MessageKeep (Protects R) where
  latch := Protects.latch
  queueAnswer {s} a h := by rw [State.queueAnswer_eq]; exact h
  answers _ _ _ h := h
  recordOutcome := Protects.feedFree.recordOutcome Protects.airFree
  recent _ _ h := h
  titleZone _ _ _ _ h := Protects.airFree.titleZone (fun _ h => h) _ _ _ h
  takeRecord := Protects.airFree.takeRecord Protects.latch
  sendRecord _ _ _ h := h

theorem Protects.airOrders : AirOrderKeep (Protects R) := Protects.airFree.airOrders Protects.message

end

/-! ### What an order does to them -/

/-- What an order leaves of the tables and the protection, and it leaves the GUARD line: both as they were; or the tables with one table, not
protected, written; or the tables as they were, and under the lock the flags too, with the lock unless GUARD was inactive. -/
def OrderEffect (s t : State) : Prop :=
  t.guard = s.guard ∧
    ((t.tables = s.tables ∧ t.protect = s.protect) ∨
      (t.protect = s.protect ∧ ∃ k T, s.protectFlag k = false ∧ t.tables = s.tables.copyTable T k) ∨
      (t.tables = s.tables ∧ (s.protect.lock = true → t.protect.flags = s.protect.flags ∧ (t.protect.lock = true ∨ s.guard = false))))

theorem OrderEffect.reply {s t : State} (h : OrderEffect s t) (r : Reply) (x : Result) (d : List Byte) : OrderEffect s (t.reply r x d) := by
  obtain ⟨u, replied⟩ := State.reply_eq t r x d
  rw [replied]
  exact h

theorem OrderEffect.self (s : State) : OrderEffect s s := ⟨rfl, .inl ⟨rfl, rfl⟩⟩

theorem OrderEffect.unlessRefused {s t : State} {refusal : Option Result} (r : Reply) (h : refusal = none → OrderEffect s t) :
    OrderEffect s (s.unlessRefused r refusal t) := by
  cases refusal with
  | none => exact h rfl
  | some x => exact (OrderEffect.self s).reply r x []

/-- What leaves the tables, the protection and the GUARD line. -/
theorem OrderEffect.of_same {s t : State} (h : Protects (fun T p g => g = s.guard ∧ T = s.tables ∧ p = s.protect) t) : OrderEffect s t := by
  obtain ⟨guard, tables, protect⟩ := h
  exact ⟨guard, .inl ⟨tables, protect⟩⟩

theorem copyTable_twice (S A B : Tables) (t : Nat) : (S.copyTable A t).copyTable B t = S.copyTable B t :=
  match t with
  | 0 | 1 | 2 | 3 | 4 | 5 | 6 | 7 | 8 | _ + 9 => rfl

theorem copyTable_again (S A X : Tables) (t : Nat) : S.copyTable (A.copyTable X t) t = S.copyTable X t :=
  match t with
  | 0 | 1 | 2 | 3 | 4 | 5 | 6 | 7 | 8 | _ + 9 => rfl

theorem storeAll_eq (T : Tables) (t i : Nat) (l : List (List Byte)) : T.storeAll t i l = T.copyTable (T.storeAll t i l) t := by
  induction l generalizing T i with
  | nil => exact (T.copyTable_self t).symm
  | cons e rest ih =>
    have first := Tables.store_eq T t i e
    have others := ih (T.store t i e) (i + 1)
    show (T.store t i e).storeAll t (i + 1) rest = T.copyTable ((T.store t i e).storeAll t (i + 1) rest) t
    rw [others]
    generalize (T.store t i e).storeAll t (i + 1) rest = X
    rw [first, copyTable_twice, copyTable_again]

theorem OrderEffect.storeWrite {s : State} {args : List Byte} (passed : s.writeRefusal args = none) :
    OrderEffect s (s.storeWrite (WriteArgs.read args)) := by
  have clear : s.protectFlag (WriteArgs.read args).table = false :=
    firstRefusal_eq_none.1 passed (s.protectFlag (WriteArgs.read args).table, .isProtected) (by simp)
  obtain ⟨v, h, form⟩ := s.changeTables_eq (s.tables.storeAll (WriteArgs.read args).table (WriteArgs.read args).first (WriteArgs.read args).entries)
  rw [State.storeWrite, form]
  exact ⟨rfl, .inr (.inl ⟨rfl, _, _, clear, storeAll_eq _ _ _ _⟩)⟩

/-- A change of the protection that leaves the flags under the lock, and the lock under GUARD. -/
theorem OrderEffect.putProtect {s : State} {p : Protect}
    (kept : s.protect.lock = true → p.flags = s.protect.flags ∧ (p.lock = true ∨ s.guard = false)) : OrderEffect s (s.putProtect p) :=
  ⟨rfl, .inr (.inr ⟨rfl, kept⟩)⟩

theorem OrderEffect.freezeLane (args : List Byte) (r : Reply) (s : State) : OrderEffect s (orderFreezeLane args r s) := by
  refine .unlessRefused _ fun _ => ?_
  split
  · unfold State.freezeLane
    split
    · exact (OrderEffect.self s).reply _ _ _
    · exact OrderEffect.self s
  · exact OrderEffect.self s

theorem protect_unlocked {s : State} {args : List Byte} (passed : s.protectRefusal args = none) : ¬s.protect.lock = true := by
  simpa using firstRefusal_eq_none.1 passed (s.protect.lock, .locked) (by simp)

theorem orderEffect {code : Nat} {run : List Byte → Reply → State → State} (found : orderOfCode code = some run) (args : List Byte) (r : Reply)
    (s : State) : OrderEffect s (run args r s) := by
  have own : Protects (fun T p g => g = s.guard ∧ T = s.tables ∧ p = s.protect) s := ⟨rfl, rfl, rfl⟩
  have plain : OrderEffect s s := OrderEffect.self s
  have unit (u : AnswerUnit) : OrderEffect s (s.putAnswers u) := plain
  unfold orderOfCode at found
  split at found <;> cases found
  · exact .unlessRefused _ fun _ => plain.reply _ _ _
  · exact .unlessRefused _ fun _ => plain.reply _ _ _
  · exact .unlessRefused _ fun passed => (OrderEffect.storeWrite passed).reply _ _ _
  · exact .unlessRefused _ fun passed => (OrderEffect.putProtect fun locked => absurd locked (protect_unlocked passed)).reply _ _ _
  · exact .unlessRefused _ fun passed => (OrderEffect.putProtect fun locked => absurd locked (protect_unlocked passed)).reply _ _ _
  · refine .unlessRefused _ fun _ => (OrderEffect.putProtect fun locked => ?_).reply _ _ _
    rw [Protect.setLock, if_pos locked]
    exact ⟨rfl, .inl locked⟩
  · refine .unlessRefused _ fun passed => (OrderEffect.putProtect (p := { s.protect with lock := false }) fun locked => ⟨rfl, .inr ?_⟩).reply _ _ _
    have soft := firstRefusal_eq_none.1 passed (s.protect.lock && s.guard, .locked) (by simp)
    simpa [locked] using soft
  · exact .freezeLane args r s
  · exact .unlessRefused _ fun _ => (OrderEffect.of_same (Protects.airOrders.switchOn _ own)).reply _ _ _
  · exact .unlessRefused _ fun _ => (OrderEffect.of_same (Protects.airOrders.switchOff _ own)).reply _ _ _
  · exact .unlessRefused _ fun _ => (OrderEffect.of_same (Protects.airOrders.startAir own)).reply _ _ _
  · exact .unlessRefused _ fun _ => (OrderEffect.of_same (Protects.airOrders.stopAir own)).reply _ _ _
  · exact .unlessRefused _ fun _ => plain
  · exact .unlessRefused _ fun _ => plain
  · exact .unlessRefused _ fun _ => plain.reply _ _ _
  · exact .unlessRefused _ fun _ => (unit _).reply _ _ _
  · exact .unlessRefused _ fun _ => (unit _).reply _ _ _
  · exact .unlessRefused _ fun _ => (unit _).reply _ _ _
  · exact .of_same (Protects.message.orderRestart args r own)

/-! ### A protected table stands -/

theorem copyTable_eq (T D : Tables) (k : Nat) :
    T.copyTable D k =
      { lane := if k = 1 then D.lane else T.lane
        regular := if k = 2 then D.regular else T.regular
        bulletin := if k = 3 then D.bulletin else T.bulletin
        urgent := if k = 4 then D.urgent else T.urgent
        names := if k = 5 then D.names else T.names
        neighbours := if k = 6 then D.neighbours else T.neighbours
        cueLines := if k = 7 then D.cueLines else T.cueLines
        site := if k = 8 then D.site else T.site } := by
  rw [← copyTable_lane, ← copyTable_regular, ← copyTable_bulletin, ← copyTable_urgent, ← copyTable_names, ← copyTable_neighbours,
    ← copyTable_cueLines, ← copyTable_site]

theorem ite_other {α : Type} {k t : Nat} (other : k ≠ t) (i : Nat) (a b x : α) :
    (if k = i then if t = i then x else b else a) = if k = i then b else a := by
  split
  · next e => exact if_neg fun f => other (e.trans f.symm)
  · rfl

theorem copyTable_other (A B X : Tables) {k t : Nat} (other : k ≠ t) : A.copyTable (B.copyTable X t) k = A.copyTable B k := by
  simp only [copyTable_eq, ite_other other]

/-- The tables `k` whose flags are set in `flags` are those of `T`, and while the lock is set and GUARD is active these flags stand. -/
def TablesStand (T : Tables) (flags : Byte) (S : Tables) : Prop :=
  ∀ k, 1 ≤ k → k ≤ 8 → flags.getLsbD (k - 1) = true → T.copyTable S k = T

theorem TablesStand.effect {s t : State} {T : Tables} {flags : Byte} (h : TablesStand T flags s.tables) (same : s.protect.flags = flags)
    (effect : OrderEffect s t) : TablesStand T flags t.tables := by
  obtain ⟨-, ⟨tables, -⟩ | ⟨-, k', X, clear, tables⟩ | ⟨tables, -⟩⟩ := effect
  · rw [tables]
    exact h
  · intro k low high flag
    have other : k ≠ k' := by
      rintro rfl
      rw [State.protectFlag, same, flag] at clear
      cases clear
    rw [tables, copyTable_other _ _ _ other]
    exact h k low high flag
  · rw [tables]
    exact h

theorem OrderEffect.flags {s t : State} (effect : OrderEffect s t) (locked : s.protect.lock = true) : t.protect.flags = s.protect.flags := by
  obtain ⟨-, ⟨-, protect⟩ | ⟨protect, -⟩ | ⟨-, kept⟩⟩ := effect
  · rw [protect]
  · rw [protect]
  · exact (kept locked).1

/-- Under the lock and GUARD an order leaves both, the flags, and the protected tables. -/
theorem stand_orders (T : Tables) (flags : Byte) :
    OrdersKeep (Protects fun S p g => (g = true ∧ p.lock = true ∧ p.flags = flags) ∧ TablesStand T flags S) := by
  intro code run found s args r ⟨⟨guard, lock, same⟩, stand⟩
  have effect := orderEffect found args r s
  refine ⟨⟨effect.1.trans guard, ?_, (effect.flags lock).trans same⟩, stand.effect same effect⟩
  obtain ⟨-, ⟨-, protect⟩ | ⟨protect, -⟩ | ⟨-, kept⟩⟩ := effect
  · rw [protect, lock]
  · rw [protect, lock]
  · obtain ⟨-, lock' | soft⟩ := kept lock
    · exact lock'
    · rw [soft] at guard
      cases guard

/-- Under the lock and GUARD a complete frame leaves the protected tables: its orders do, and nothing else in it, a restart included, changes a
table. -/
theorem stand_completeFrame {T : Tables} {flags : Byte} {s : State}
    (h : Protects (fun S p g => (g = true ∧ p.lock = true ∧ p.flags = flags) ∧ TablesStand T flags S) s) (a : Arrival) (tN : Micros) :
    TablesStand T flags (s.completeFrame a tN).tables := by
  have begins : Protects (fun S p g => (g = true ∧ p.lock = true ∧ p.flags = flags) ∧ TablesStand T flags S) (begun a s) := h
  have message : MessageKeep (Protects fun S _ _ => TablesStand T flags S) := Protects.message
  unfold State.completeFrame
  dsimp only
  rw [begun_eq]
  show Protects (fun S _ _ => TablesStand T flags S) (if a.frame.good = true then _ else _ : State × FeedFrame).1
  split
  · obtain ⟨-, parsed⟩ := Protects.message.parseFrom (stand_orders T flags) (frameNumber a.frame.word) tN 64 0
      { part := { state := (begun a s).outcomeAt a .beforeParse, prompt := a.prompt }, field := a.frame.anc, free := none }
      (Protects.message.outcomeAt a .beforeParse begins)
    exact message.afterParse (fun _ h => h) a tN parsed
  · exact message.recordOutcome true true begins.2

/-- Settles O58. -/
theorem protectedTablesStand : Obligations.ProtectedTablesStand := by
  refine ⟨fun c listed o s t done => ?_, fun a s t lock guard done => ?_⟩
  · obtain ⟨k, inside, e⟩ := List.getElem_of_mem listed
    obtain ⟨run, found, runs⟩ := orderCommands_run (List.getElem?_eq_some_iff.2 ⟨inside, e⟩)
    rw [runs] at done
    cases done
    have effect : OrderEffect (s.clockAt o.time) (s.takeOrder o run) := by
      unfold State.takeOrder
      dsimp only
      split
      · exact OrderEffect.self _
      · exact orderEffect found _ _ _
    have start : TablesStand s.tables s.protect.flags (s.clockAt o.time).tables := fun k _ _ _ => Tables.copyTable_self _ _
    exact ⟨start.effect rfl effect, effect.flags⟩
  · cases done
    have start : TablesStand s.tables s.protect.flags s.tables := fun k _ _ _ => Tables.copyTable_self _ _
    show TablesStand s.tables s.protect.flags (s.frameComplete a).tables
    unfold State.frameComplete
    split
    · exact start
    · split
      · exact stand_completeFrame (s := s.clockAt a.time) ⟨⟨guard, lock, rfl⟩, start⟩ a _
      · exact start

end Sys2Proof.Safety
end

section
/-! PROOF. A cue, from its message to the records, and their targets (R82, R84, R86, R90 to R95). -/

namespace Sys2Proof.Safety

open Machine

/-! ### Frame numbers at a distance -/

theorem sdiff_self {w : Nat} (n : BitVec w) : sdiff n n = 0 := by simp [Machine.sdiff]

theorem sdiff_add (n : AirNo) {i : Int} (low : -32768 ≤ i) (high : i < 32768) : sdiff (n + BitVec.ofInt 16 i) n = i := by
  have apart : n + BitVec.ofInt 16 i - n = BitVec.ofInt 16 i := by rw [BitVec.add_comm, BitVec.add_sub_cancel]
  rw [Machine.sdiff, apart]
  exact BitVec.toInt_ofInt_eq_self (by decide) low high

/-- Of three frame numbers that do not lie too far from each other the distances add. -/
theorem sdiff_sub {a b n : AirNo} (low : -32768 ≤ sdiff a n - sdiff b n) (high : sdiff a n - sdiff b n < 32768) :
    sdiff a b = sdiff a n - sdiff b n := by
  have small (x : AirNo) : x.toNat < 65536 := x.isLt
  have := small a
  have := small b
  have := small n
  simp only [sdiff_eq_wrapped] at low high ⊢
  norm_num at low high ⊢
  split_ifs at low high ⊢ <;> omega

/-! ### The target of a record (R90, R92 to R94) -/

/-- The frame that R90 counts from the reference: the last at or before a START's line target, the first at or after an END's. -/
theorem rawTarget_eq (kind : TransKind) (ref : FrameRef) (t : Micros) :
    ∃ j : Int, rawTarget kind ref t = ref.number + BitVec.ofInt 16 j ∧
      if kind = .bulletinStart ∨ kind = .urgentStart then 80000 * j ≤ sdiff t ref.start ∧ sdiff t ref.start < 80000 * (j + 1)
      else 80000 * (j - 1) < sdiff t ref.start ∧ sdiff t ref.start ≤ 80000 * j := by
  have frame : ((Config.frameMicros : Nat) : Int) = 80000 := by decide
  unfold rawTarget floorDiv ceilDiv
  dsimp only
  generalize sdiff t ref.start = d
  rw [frame, Int.fdiv_eq_ediv_of_nonneg _ (by decide), Int.fdiv_eq_ediv_of_nonneg _ (by decide)]
  by_cases start : kind = .bulletinStart ∨ kind = .urgentStart
  · rw [if_pos ((TransKind.isStart_iff kind).2 start)]
    exact ⟨_, rfl, by rw [if_pos start]; omega⟩
  · rw [if_neg (mt (TransKind.isStart_iff kind).1 start)]
    exact ⟨_, rfl, by rw [if_neg start]; omega⟩

theorem sdiff_lateClamp (k n : AirNo) : sdiff (lateClamp k n) n = max 0 (sdiff k n) := by
  unfold lateClamp before
  split
  · next late =>
    rw [sdiff_self]
    have := of_decide_eq_true late
    omega
  · next early =>
    have := of_decide_eq_false (Bool.not_eq_true _ ▸ early)
    omega

/-- The frames beyond the next one that a record's target is bounded to. -/
def targetBound (kind : TransKind) : Int := if kind.isStart then 567 else 575

theorem sdiff_boundClamp (kind : TransKind) (k n : AirNo) : sdiff (boundClamp kind k n) n = min (targetBound kind) (sdiff k n) := by
  have small : 0 ≤ targetBound kind ∧ targetBound kind < 32768 := by
    unfold targetBound
    split <;> decide
  show sdiff (if targetBound kind < sdiff k n then n + BitVec.ofInt 16 (targetBound kind) else k) n = _
  split
  · rw [sdiff_add n (by omega) small.2]
    omega
  · omega

theorem eq_of_sdiff {w : Nat} {a b : BitVec w} (same : sdiff a b = 0) : a = b := by
  have zero : a - b = 0#w := BitVec.eq_of_toInt_eq (by rw [BitVec.toInt_zero]; exact same)
  rw [← BitVec.sub_add_cancel a b, zero, BitVec.zero_add]

section

variable (e : LaneEntry) (l : Lane) (ref : FrameRef) (kind : TransKind) (c : CueMsg)

/-- The target that R90 gives a cue for a lane. -/
def cueRaw : AirNo := rawTarget kind ref (lineTarget e kind (feedTime c.carrier c.effective c.syncTime))

theorem start_target (start : kind = .bulletinStart ∨ kind = .urgentStart) :
    sdiff (alignRecord e l ref kind c).target (ref.number + 2) = min 567 (max 0 (sdiff (cueRaw e ref kind c) (ref.number + 2))) := by
  have starts := (TransKind.isStart_iff kind).2 start
  have bound : targetBound kind = 567 := if_pos starts
  have none : minimumClamp kind l (lateClamp (cueRaw e ref kind c) (ref.number + 2)) = lateClamp (cueRaw e ref kind c) (ref.number + 2) := if_pos starts
  show sdiff (boundClamp kind (minimumClamp kind l (lateClamp (cueRaw e ref kind c) (ref.number + 2))) (ref.number + 2)) _ = _
  rw [sdiff_boundClamp, none, sdiff_lateClamp, bound]

theorem end_target (ending : kind.isStart = false) :
    sdiff (alignRecord e l ref kind c).target (ref.number + 2) =
      min 575 (sdiff (minimumClamp kind l (lateClamp (cueRaw e ref kind c) (ref.number + 2))) (ref.number + 2)) := by
  have bound : targetBound kind = 575 := if_neg (by simp [ending])
  rw [← bound]
  exact sdiff_boundClamp kind _ _

end

section

variable {kind : TransKind} {l : Lane} {k n : AirNo} (ending : kind.isStart = false)
include ending

theorem minimumClamp_free (free : minimumFrom kind l = none) : minimumClamp kind l k = k := by
  rw [minimumClamp, if_neg (by simp [ending]), free]

/-- The minimum length after `m`, where neither frame lies too far from the next. -/
theorem sdiff_minimumClamp {m : AirNo} (after : minimumFrom kind l = some m) (low : -9000 ≤ sdiff m n) (high : sdiff m n ≤ 567)
    (later : 0 ≤ sdiff k n) (near : sdiff k n ≤ 22000) : sdiff (minimumClamp kind l k) n = max (sdiff k n) (sdiff m n + 8) := by
  have eight : sdiff (m + 8) m = 8 := sdiff_add m (i := 8) (by decide) (by decide)
  have back : sdiff n m = - sdiff m n := by
    have := sdiff_sub (a := n) (b := m) (n := n) (by rw [sdiff_self]; omega) (by rw [sdiff_self]; omega)
    rw [this, sdiff_self, Int.zero_sub]
  have raised : sdiff (m + 8) n = sdiff m n + 8 := by
    rw [sdiff_sub (a := m + 8) (b := n) (n := m) (by omega) (by omega), eight, back]
    omega
  have apart : sdiff k (m + 8) = sdiff k n - (sdiff m n + 8) := by
    rw [sdiff_sub (a := k) (b := m + 8) (n := n) (by omega) (by omega), raised]
  rw [minimumClamp, if_neg (by simp [ending]), after]
  dsimp only
  unfold before
  rw [apart]
  split
  · next early =>
    have := of_decide_eq_true early
    omega
  · next late =>
    have := of_decide_eq_false (Bool.not_eq_true _ ▸ late)
    omega

end

/-- The frame that the minimum length is counted from: of the schedule where a START waits there, else of the level. -/
theorem minimumFrom_iff (kind : TransKind) (l : Lane) (m : AirNo) :
    minimumFrom kind l = some m ↔
      (l.schedule.filter (fun q => q.kind == kind.startOf)).getLast?.map Transition.target = some m ∨
        (l.schedule.filter (fun q => q.kind == kind.startOf) = [] ∧ entryFrameOf l.stack kind.level = some m) := by
  unfold minimumFrom
  rcases List.eq_nil_or_concat (l.schedule.filter (fun q => q.kind == kind.startOf)) with none | ⟨before, last, some⟩
  · simp [none]
  · simp [some]

theorem minimumFrom_none {kind : TransKind} {l : Lane} (starts : l.schedule.filter (fun q => q.kind == kind.startOf) = [])
    (entered : entryFrameOf l.stack kind.level = none) : minimumFrom kind l = none := by
  unfold minimumFrom
  rw [starts]
  exact entered

/-- The first part of O48: the target that the alignment gives a cue for a lane. -/
theorem target_bounds (e : LaneEntry) (l : Lane) (ref : FrameRef) (kind : TransKind) (c : CueMsg) :
    let r := alignRecord e l ref kind c
    let n := ref.number + 2
    let raw := cueRaw e ref kind c
    (kind = .bulletinStart ∨ kind = .urgentStart →
      sdiff r.target n = min 567 (max 0 (sdiff raw n)) ∧ 0 ≤ sdiff r.target n ∧ sdiff r.target n ≤ 567 ∧ (r.late = true → r.target = n)) ∧
    (kind.isStart = false →
      let starts := l.schedule.filter (fun q => q.kind == kind.startOf)
      let entered := entryFrameOf l.stack kind.level
      (starts = [] → entered = none → sdiff r.target n = min 575 (max 0 (sdiff raw n))) ∧
      (∀ m : AirNo, starts.getLast?.map Transition.target = some m ∨ (starts = [] ∧ entered = some m) →
        -9000 ≤ sdiff m n → sdiff m n ≤ 567 → sdiff raw n ≤ 22000 →
        sdiff r.target n = min 575 (max (max 0 (sdiff raw n)) (sdiff m n + 8)))) := by
  intro r n raw
  refine ⟨fun start => ?_, fun ending => ⟨fun none entered => ?_, fun m after low high near => ?_⟩⟩
  · have target : sdiff r.target n = min 567 (max 0 (sdiff raw n)) := start_target e l ref kind c start
    refine ⟨target, by omega, by omega, fun late => eq_of_sdiff ?_⟩
    have : sdiff raw n < 0 := of_decide_eq_true late
    omega
  · rw [end_target e l ref kind c ending, minimumClamp_free ending (minimumFrom_none none entered), sdiff_lateClamp]
  · have late := sdiff_lateClamp raw n
    rw [end_target e l ref kind c ending,
      sdiff_minimumClamp ending ((minimumFrom_iff kind l m).2 after) low high (by rw [late]; omega) (by rw [late]; omega), late]

/-! ### A cue from its message to the records (R82, R84, R86, R95) -/

theorem admits_iff (s : State) (mask : Half) (n : LaneNo) :
    s.admits mask n = true ↔ s.lanes[n].mode = .onAir ∧ s.tables.lane[n].traffic = true ∧
      (mask.getLsbD s.tables.lane[n].zone.val = true ∨ mask &&& s.tables.lane[n].linked ≠ 0) := by
  simp [State.admits, and_assoc]

/-- What a lane makes of a record handed to it, at once or on its way. -/
def received (atOnce : Bool) (r : Transition) (l : Lane) : Settled :=
  { lane := if atOnce = true then (if l.schedule.length < 8 then { l with schedule := insertRecord (lateAs l r) l.schedule } else l)
      else { l with records := l.records ++ [r] }
    events := (if r.late = true then [Event.cueLate] else []) ++
      (if atOnce = true then
        (if atOrBefore r.target l.lastBuilt = true then [Event.cueLate] else []) ++ (if 8 ≤ l.schedule.length then [Event.scheduleFull] else [])
      else []) }

theorem latchIf_eq_latchAll (s : State) (b : Bool) (e : Event) : s.latchIf b e = s.latchAll (if b = true then [e] else []) := by
  cases b <;> rfl

theorem latchAll_put (s : State) (l : List Event) : s.latchAll l = s.putAnswers (s.latchAll l).answers :=
  State.latchAll_of_same (s := s) (t := s) rfl rfl l

theorem latchAll_append (s : State) (l m : List Event) : s.latchAll (l ++ m) = (s.latchAll l).latchAll m := List.foldl_append ..

/-- A record taken at once, or put on its way, settles its lane. -/
theorem handOver_received {c : Chosen} {n : LaneNo} (onAir : c.state.lanes[n].mode = .onAir) (r : Transition) :
    ({ c with state := c.state.latchIf r.late .cueLate } : Chosen).handOver n r =
      { state := c.state.settleLane (fun _ l => received (c.prompt.headD false) r l) n, prompt := c.prompt.tail } := by
  obtain ⟨s, prompt⟩ := c
  dsimp only at onAir
  have lane : (s.latchIf r.late .cueLate).lanes[n] = s.lanes[n] := by simp
  have onAir' : (s.latchIf r.late .cueLate).lanes[n].mode = .onAir := by rw [lane]; exact onAir
  have late := latchIf_eq_latchAll s r.late .cueLate
  unfold Chosen.handOver
  dsimp only
  congr 1
  rw [State.settleLane_eq]
  cases prompt.headD false with
  | false =>
    rw [if_neg Bool.false_ne_true, late, latchAll_put]
    simp only [received, Bool.false_eq_true, if_false, List.append_nil]
    rfl
  | true =>
    rw [if_pos rfl]
    by_cases room : s.lanes[n].schedule.length < 8
    · rw [takeRecord_room onAir' (by rw [lane]; exact room), lane, latchIf_eq_latchAll, late, ← latchAll_append, latchAll_put]
      simp only [received, room, if_true, show ¬8 ≤ s.lanes[n].schedule.length by omega, if_false, List.append_nil]
      rfl
    · rw [takeRecord_full onAir' (by rw [lane]; omega), lane, latchIf_eq_latchAll, late, ← latchAll_append]
      simp only [received, room, if_true, show 8 ≤ s.lanes[n].schedule.length by omega, if_false, State.putLane_self]
      rw [← latchAll_put, ← List.append_assoc, latchAll_append s _ [Event.scheduleFull]]
      rfl

theorem takeRecord_lane {s : State} {n : LaneNo} (onAir : s.lanes[n].mode = .onAir) (r : Transition) :
    (s.takeRecord n r).lanes[n] = (received true r s.lanes[n]).lane := by
  have lane (b : Bool) : (s.latchIf b .cueLate).lanes[n] = s.lanes[n] := by simp
  by_cases room : s.lanes[n].schedule.length < 8
  · rw [takeRecord_room onAir room, State.modLane, State.putLane_lane, if_pos rfl, lane]
    simp only [received, room, if_true]
  · have full : ((s.latchIf (atOrBefore r.target s.lanes[n].lastBuilt) .cueLate).latch .scheduleFull).lanes[n] = s.lanes[n] := by simp
    rw [takeRecord_full onAir (by omega), full]
    simp only [received, room, if_true, if_false]

/-- The choice that falls to lane `n` where `goers` take theirs in turn from `prompt`. -/
def choiceOf (prompt : List Bool) (goers : List LaneNo) (n : LaneNo) : Bool := prompt.getD (goers.takeWhile (fun m => m != n)).length false

theorem choiceOf_first (prompt : List Bool) (n : LaneNo) (rest : List LaneNo) : choiceOf prompt (n :: rest) n = prompt.headD false := by
  cases prompt <;> simp [choiceOf]

theorem choiceOf_later (prompt : List Bool) {n m : LaneNo} (other : m ≠ n) (rest : List LaneNo) :
    choiceOf prompt (m :: rest) n = choiceOf prompt.tail rest n := by
  cases prompt <;> simp [choiceOf, other]

theorem settleLanes_congr {a b : LaneNo → Lane → Settled} {order : List LaneNo} (same : ∀ n ∈ order, a n = b n) (s : State) :
    s.settleLanes a order = s.settleLanes b order := by
  induction order generalizing s with
  | nil => rfl
  | cons m order ih =>
    have first : s.settleLane a m = s.settleLane b m := by rw [State.settleLane, same m List.mem_cons_self, State.settleLane]
    show (s.settleLane a m).settleLanes a order = (s.settleLane b m).settleLanes b order
    rw [first]
    exact ih (fun n listed => same n (List.mem_cons_of_mem m listed)) _

section

variable (T : Tables) (ref : FrameRef) (kind : TransKind) (m : CueMsg)

/-- What a cue makes of the lanes that it applies to, by the choices that fall to them. -/
def cued (choice : LaneNo → Bool) (n : LaneNo) (l : Lane) : Settled := received (choice n) (alignRecord T.lane[n] l ref kind m) l

variable {T ref kind m}

/-- The lanes that a cue applies to have their records one after another, each with the next choice. -/
theorem cueLanes_settle {adm : LaneNo → Bool} {order : List LaneNo} (once : order.Nodup) {c : Chosen} (tables : c.state.tables = T)
    (reference : c.state.timebase.reference = some ref) (applies : ∀ n ∈ order, c.state.admits m.mask n = adm n) :
    order.foldl (fun c n => c.cueLane kind m n) c =
      { state := c.state.settleLanes (cued T ref kind m (choiceOf c.prompt (order.filter adm))) (order.filter adm)
        prompt := c.prompt.drop (order.filter adm).length } := by
  induction order generalizing c with
  | nil => rfl
  | cons n order ih =>
    obtain ⟨new, once⟩ := List.nodup_cons.1 once
    have own : c.state.admits m.mask n = adm n := applies n List.mem_cons_self
    have rest : ∀ k ∈ order, c.state.admits m.mask k = adm k := fun k listed => applies k (List.mem_cons_of_mem n listed)
    rw [List.foldl_cons]
    cases goes : adm n with
    | false =>
      have stays : c.cueLane kind m n = c := by
        rw [Chosen.cueLane, reference]
        exact if_neg (by simp [own, goes])
      rw [stays, List.filter_cons_of_neg (by simp [goes])]
      exact ih once tables reference rest
    | true =>
      have onAir : c.state.lanes[n].mode = .onAir := ((admits_iff _ _ _).1 (own.trans goes)).1
      have first : c.cueLane kind m n =
          { state := c.state.settleLane (cued T ref kind m (choiceOf c.prompt (n :: order.filter adm))) n, prompt := c.prompt.tail } := by
        rw [Chosen.cueLane, reference]
        refine (if_pos (own.trans goes)).trans ?_
        refine (handOver_received (c := c) onAir _).trans ?_
        rw [State.settleLane, State.settleLane, cued, choiceOf_first, ← tables]
      have others : ∀ k ∈ order, (c.state.settleLane (cued T ref kind m (choiceOf c.prompt (n :: order.filter adm))) n).admits m.mask k = adm k := by
        intro k listed
        have lane : (c.state.settleLane (cued T ref kind m (choiceOf c.prompt (n :: order.filter adm))) n).lanes[k] = c.state.lanes[k] := by
          rw [State.settleLane_lane, if_neg fun same : k = n => new (same ▸ listed)]
        have tables' : (c.state.settleLane (cued T ref kind m (choiceOf c.prompt (n :: order.filter adm))) n).tables = c.state.tables := by
          rw [State.settleLane_eq]
          rfl
        rw [← rest k listed, State.admits, State.admits, lane, tables']
      have later := ih once (c := { state := c.state.settleLane (cued T ref kind m (choiceOf c.prompt (n :: order.filter adm))) n
                                    prompt := c.prompt.tail })
        (by rw [State.settleLane_eq]; exact tables) (by rw [State.settleLane_eq]; exact reference) others
      rw [first, later, List.filter_cons_of_pos goes]
      congr 1
      · refine settleLanes_congr (fun k listed => ?_) _
        have other : n ≠ k := by
          rintro rfl
          exact new (List.mem_of_mem_filter listed)
        unfold cued
        rw [choiceOf_later _ other]
      · simp [Nat.add_comm]

end

theorem takeCue_ignored {c : Chosen} {m : CueMsg} (ignored : m.kind = none ∨ m.number ∈ c.state.recentCues) : c.takeCue m = c := by
  unfold Chosen.takeCue
  split
  · rfl
  · next kind known =>
    have listed : m.number ∈ c.state.recentCues := ignored.resolve_left (by simp [known])
    exact if_pos (by simpa using listed)

/-- A cue that is new joins the list, and then goes to the lanes in turn. -/
theorem takeCue_fresh {c : Chosen} {m : CueMsg} {kind : TransKind} (known : m.kind = some kind) (fresh : m.number ∉ c.state.recentCues) :
    c.takeCue m = laneNumbers.foldl (fun c n => c.cueLane kind m n)
      { c with state := c.state.putRecentCues (joinRecent c.state.recentCues m.number) } := by
  rw [Chosen.takeCue, known]
  exact if_neg (by simpa using fresh)

theorem cueLane_unreferenced {c : Chosen} (none : c.state.timebase.reference = none) (kind : TransKind) (m : CueMsg) (n : LaneNo) :
    c.cueLane kind m n = c := by rw [Chosen.cueLane, none]

/-- Settles O48. -/
theorem startTargetBound : Obligations.StartTargetBound := by
  refine ⟨fun e l ref kind c => ?_, fun c m => ?_⟩
  · intro r n target raw
    obtain ⟨starts, ends⟩ := target_bounds e l ref kind c
    refine ⟨rawTarget_eq kind ref target, rfl, rfl, rfl, starts, ?_⟩
    rintro (rfl | rfl)
    · exact ends rfl
    · exact ends rfl
  · intro s recent
    refine ⟨takeCue_ignored, fun kind known fresh => ⟨fun none => ?_, fun ref reference => ?_⟩⟩
    · have still (order : List LaneNo) (d : Chosen) (none : d.state.timebase.reference = .none) :
          order.foldl (fun c n => c.cueLane kind m n) d = d := by
        induction order generalizing d with
        | nil => rfl
        | cons n order ih => rw [List.foldl_cons, cueLane_unreferenced none, ih d none]
      rw [takeCue_fresh known fresh]
      exact still laneNumbers _ none
    · intro admitted goers atOnce r events t
      have once : goers.Nodup := List.Nodup.filter _ (by decide)
      have goes (n : LaneNo) : n ∈ goers ↔ admitted n := by
        simp only [goers, List.mem_filter, decide_eq_true_eq]
        exact ⟨fun h => h.2, fun h => ⟨mem_laneNumbers n, h⟩⟩
      let joined := s.putRecentCues recent
      have taken : c.takeCue m = { state := joined.settleLanes (cued s.tables ref kind m atOnce) goers, prompt := c.prompt.drop goers.length } :=
        (takeCue_fresh known fresh).trans (cueLanes_settle (by decide) rfl reference fun n _ =>
          Bool.eq_iff_iff.2 ((admits_iff _ _ _).trans decide_eq_true_iff.symm))
      have state : t = joined.settleLanes (cued s.tables ref kind m atOnce) goers := congrArg Chosen.state taken
      have unit : (joined.latchAll (goers.flatMap events)).answers = (s.latchAll (goers.flatMap events)).answers := by
        rw [State.latchAll_of_same (s := s) (t := joined) rfl rfl]
        rfl
      have whole : t = { s with recentCues := recent, lanes := t.lanes, answers := (s.latchAll (goers.flatMap events)).answers } := by
        have form : t = (joined.putLanes t.lanes).putAnswers (joined.latchAll (goers.flatMap events)).answers := by
          rw [state]
          exact State.settleLanes_eq (cued s.tables ref kind m atOnce) goers once joined
        rw [unit] at form
        exact form
      refine ⟨congrArg Chosen.prompt taken, whole, fun n listed late => ?_, fun n => ?_⟩
      · have among : Event.cueLate ∈ goers.flatMap events :=
          List.mem_flatMap.2 ⟨n, listed, List.mem_append_left _ (by rw [if_pos late]; exact List.mem_singleton_self _)⟩
        rw [whole]
        exact State.latchAll_self (s := s) among
      · have settled := State.settleLanes_lane (cued s.tables ref kind m atOnce) goers once joined n
        rw [← state] at settled
        rw [settled]
        by_cases own : admitted n
        · rw [if_pos ((goes n).2 own), if_pos own]
          rw [takeRecord_lane own.1]
          show (received (atOnce n) (r n) s.lanes[n]).lane = _
          cases atOnce n <;> rfl
        · rw [if_neg (mt (goes n).1 own), if_neg own]
          rfl

end Sys2Proof.Safety
end

section
/-! PROOF. The cue lines: triggers, their edges, and the pulse trains (R100 to R109, R111). -/

namespace Sys2Proof.Safety

open Machine

/-! ### A trigger arrives (R102, R111) -/

/-- A queued trigger goes behind every one due no later. -/
theorem insertQueued_eq (q : Queued) (l : List Queued) :
    insertQueued q l = l.takeWhile (fun p => atOrBefore p.due q.due) ++ [q] ++ l.dropWhile (fun p => atOrBefore p.due q.due) := by
  induction l with
  | nil => rfl
  | cons p rest ih =>
    rw [insertQueued]
    cases due : atOrBefore p.due q.due
    · simp [due]
    · simp [due, ih]

theorem insertQueued_split (q : Queued) (l : List Queued) :
    ∃ before after, l = before ++ after ∧ insertQueued q l = before ++ [q] ++ after ∧ (∀ p ∈ before, atOrBefore p.due q.due = true) ∧
      ∀ p, after.head? = some p → atOrBefore p.due q.due = false := by
  have behind := List.head?_dropWhile_not (fun p : Queued => atOrBefore p.due q.due) l
  refine ⟨_, _, List.takeWhile_append_dropWhile.symm, insertQueued_eq q l, fun p early => List.mem_takeWhile_imp (p := fun p : Queued => atOrBefore p.due q.due) early, fun p late => ?_⟩
  rw [late] at behind
  exact behind

theorem dueTime_eq (e : CueEntry) (g : Trigger) (now : Micros) :
    dueTime e g now =
      let line := if e.fromAudio then g.audio.getD g.line else g.line
      let due := line + BitVec.ofNat 32 (e.delay * 5000)
      if sdiff due now ≤ 0 then now else due := by
  unfold dueTime atOrBefore
  simp only [ticks_eq, decide_eq_true_eq]

section

variable {s : State} {n : LaneNo} {g : Trigger} {rest : List Trigger} (first : s.lanes[n].triggers = g :: rest)
include first

theorem triggerArrives_off (off : s.lanes[n].mode ≠ .onAir) : s.triggerArrives n = s.modLane n (fun l => { l with triggers := rest }) := by
  rw [State.triggerArrives, first]
  exact if_neg (by rw [State.modLane_self]; exact off)

theorem triggerArrives_onAir (onAir : s.lanes[n].mode = .onAir) :
    s.triggerArrives n =
      let r := s.lanes[n].cue.arrive s.tables.cueLines[n] g s.clock
      (s.modLane n (fun l => { l with triggers := rest, cue := r.1 })).latchIf r.2 .triggerLost := by
  have cue : (s.modLane n (fun l => { l with triggers := rest })).lanes[n] = { s.lanes[n] with triggers := rest } := State.modLane_self ..
  rw [State.triggerArrives, first]
  refine (if_pos (by rw [cue]; exact onAir)).trans ?_
  dsimp only
  rw [cue, State.modCue, State.modLane, cue, State.modLane, State.putLane_putLane]
  rfl

end

theorem arrive_unfollowed {c : CueLine} {e : CueEntry} {g : Trigger} (unfollowed : ¬(e.mode ≠ .off ∧ e.urgentOnly = g.edge.isUrgent)) (now : Micros) :
    c.arrive e g now = (c, false) := by
  refine if_pos ?_
  by_cases off : e.mode = .off
  · exact .inl off
  · exact .inr (by simpa [CueEntry.follows] using fun same => unfollowed ⟨off, same⟩)

theorem arrive_followed {c : CueLine} {e : CueEntry} {g : Trigger} (mode : e.mode ≠ .off) (follows : e.urgentOnly = g.edge.isUrgent) (now : Micros) :
    c.arrive e g now =
      if c.queue.length < 4 then ({ c with queue := insertQueued { edge := g.edge, due := dueTime e g now } c.queue }, false) else (c, true) :=
  if_neg (by simp [mode, CueEntry.follows, follows])

/-! ### A trigger falls due (R103 to R108) -/

theorem Edge.up_iff (edge : Edge) : edge.up = true ↔ edge = .bUp ∨ edge = .uUp := by cases edge <;> simp [Edge.up]

theorem startTrain_eq (c : CueLine) (e : CueEntry) (t : Micros) : c.startTrain e t = started c e t := by
  rw [CueLine.startTrain, started, ticks_eq]

section

variable (c : CueLine) (e : CueEntry) (t : Micros)

theorem startIfIdle_eq : c.startIfIdle e t = if c.train = .idle then started c e t else c := by
  rw [CueLine.startIfIdle, startTrain_eq]

theorem trainOver_eq : c.trainOver e t = if c.closing = true then started { c with closing := false } e t else cut c := by
  unfold CueLine.trainOver
  rw [startTrain_eq]
  rfl

theorem complete_eq :
    c.complete e t =
      if e.truncate = true ∧ c.train ≠ .idle then (if c.closing = true then started { c with closing := false } e t else cut c) else c := by
  rw [CueLine.complete, trainOver_eq]
  simp only [Bool.and_eq_true, bne_iff_ne]

theorem closeTrain_eq :
    c.closeTrain e t =
      if c.train = .idle then started c e t
      else if e.truncate = true then started { c with closing := false } e t
      else { c with closing := true } := by
  rw [CueLine.closeTrain, trainOver_eq, startTrain_eq]
  rfl

end

/-- Settles O49. -/
theorem triggerResults : Obligations.TriggerResults := by
  refine ⟨fun s n g rest first => ?_, fun s n q rest first => ?_⟩
  · intro follows line due at'
    have arrival : dueTime s.tables.cueLines[n] g s.clock = at' := dueTime_eq _ _ _
    refine ⟨fun unfollowed => ?_, fun ⟨onAir, mode, own⟩ room => ?_, fun ⟨onAir, mode, own⟩ full => ?_⟩
    · show Host.Outcome.next (s.triggerArrives n) = _
      by_cases onAir : s.lanes[n].mode = .onAir
      · rw [triggerArrives_onAir first onAir, arrive_unfollowed fun h => unfollowed ⟨onAir, h⟩]
        rfl
      · rw [triggerArrives_off first onAir]
    · obtain ⟨before, after, split, inserted, early, late⟩ := insertQueued_split { edge := g.edge, due := at' } s.lanes[n].cue.queue
      refine ⟨s.triggerArrives n, before, after, rfl, split, ?_, early, late⟩
      rw [triggerArrives_onAir first onAir, arrive_followed mode own, if_pos room, arrival, inserted]
      rfl
    · show Host.Outcome.next (s.triggerArrives n) = _
      rw [triggerArrives_onAir first onAir, arrive_followed mode own, if_neg (by omega)]
      rfl
  · intro e up c start stop complete follow
    have cue : (s.clockTo q.due).lanes[n].cue = s.lanes[n].cue := by simp
    have lanes : (s.clockTo q.due).lanes = s.lanes := by simp
    show Host.Outcome.next (s.triggerDue n) = _
    rw [State.triggerDue, first]
    refine congrArg Host.Outcome.next (congrArg (fun x : CueLine => (s.clockTo q.due).putLane n { (s.clockTo q.due).lanes[n] with cue := x }) ?_)
    show CueLine.edgeDue { (s.clockTo q.due).lanes[n].cue with queue := rest } e q.edge q.due = _
    rw [cue]
    show c.edgeDue e q.edge q.due = _
    clear_value c e
    rw [CueLine.edgeDue]
    by_cases rising : up
    · rw [(Edge.up_iff q.edge).2 rising]
      simp only [if_pos rising]
      cases mode : e.mode with
      | off => rfl
      | level => rfl
      | pulse =>
        show c.pulseEdge e true q.due = _
        unfold CueLine.pulseEdge
        cases edge : e.edge with
        | start => exact startIfIdle_eq c e q.due
        | finish => rfl
        | both => exact startIfIdle_eq c e q.due
      | repeating =>
        show c.repeatEdge e true q.due = _
        unfold CueLine.repeatEdge
        cases edge : e.edge with
        | start => exact startIfIdle_eq (follow true) e q.due
        | finish => rfl
        | both => exact startIfIdle_eq (follow true) e q.due
    · rw [Bool.eq_false_iff.2 (mt (Edge.up_iff q.edge).1 rising)]
      simp only [if_neg rising]
      cases mode : e.mode with
      | off => rfl
      | level => rfl
      | pulse =>
        show c.pulseEdge e false q.due = _
        unfold CueLine.pulseEdge
        cases edge : e.edge with
        | start => exact complete_eq c e q.due
        | finish => exact startIfIdle_eq c e q.due
        | both => exact startIfIdle_eq c e q.due
      | repeating =>
        show c.repeatEdge e false q.due = _
        unfold CueLine.repeatEdge
        cases edge : e.edge with
        | start => exact complete_eq (follow false) e q.due
        | finish => exact startIfIdle_eq c e q.due
        | both => exact closeTrain_eq (follow false) e q.due

/-! ### A train runs (R105, R108) -/

/-- A train of `e` started at `t` as it stands in HIGH with `k` pulses behind it. -/
def inPulse (c : CueLine) (e : CueEntry) (t : Micros) (k : Nat) : CueLine :=
  { c with
    train := .high, phaseEnd := some (t + BitVec.ofNat 32 (((k + 1) * e.high + k * e.low) * 5000)), remaining := e.pulses - k
    widths := some (e.high, e.low) }

/-- The phase of a train ends at its instant. -/
def runPhase (e : CueEntry) (c : CueLine) : CueLine := c.phaseOver e (c.phaseEnd.getD 0)

section

variable (c : CueLine) (e : CueEntry) (t : Micros)

theorem inPulse_first : c.startTrain e t = inPulse c e t 0 := by
  rw [startTrain_eq, started, inPulse]
  simp

/-- Of a train with a pulse to come two phase ends, of its HIGH and of its LOW, lead to that pulse. -/
theorem inPulse_next {k : Nat} (more : k + 1 < e.pulses) : runPhase e (runPhase e (inPulse c e t k)) = inPulse c e t (k + 1) := by
  have left : 1 < e.pulses - k := by omega
  have low : runPhase e (inPulse c e t k) = { inPulse c e t k with
      train := .low, phaseEnd := some (t + BitVec.ofNat 32 (((k + 1) * e.high + k * e.low) * 5000) + ticks e.low)
      remaining := e.pulses - k - 1 } := if_pos left
  have instant : t + BitVec.ofNat 32 (((k + 1) * e.high + k * e.low) * 5000) + ticks e.low + ticks e.high =
      t + BitVec.ofNat 32 (((k + 1 + 1) * e.high + (k + 1) * e.low) * 5000) := by
    have sum : ((k + 1) * e.high + k * e.low) * 5000 + (e.low * 5000 + e.high * 5000) = ((k + 1 + 1) * e.high + (k + 1) * e.low) * 5000 := by ring
    rw [ticks_eq, ticks_eq, BitVec.add_assoc, BitVec.add_assoc, ← BitVec.ofNat_add, ← BitVec.ofNat_add, sum]
  rw [low]
  show ({ inPulse c e t k with
    phaseEnd := some (t + BitVec.ofNat 32 (((k + 1) * e.high + k * e.low) * 5000) + ticks e.low + ticks e.high)
    remaining := e.pulses - k - 1 } : CueLine) = _
  rw [instant, Nat.sub_sub]
  rfl

theorem inPulse_run {k : Nat} (more : k < e.pulses) : (runPhase e)^[2 * k] (inPulse c e t 0) = inPulse c e t k := by
  induction k with
  | zero => rfl
  | succ k ih =>
    rw [Nat.mul_succ, Nat.add_comm, Function.iterate_add_apply, ih (by omega)]
    exact inPulse_next c e t more

end

/-- Settles O50. -/
theorem pulseTrainRuns : Obligations.PulseTrainRuns := by
  refine ⟨fun s n d running => ?_, fun c e t some => ?_, fun s n => ?_⟩
  · show Host.Outcome.next (s.phaseEnd n) = _
    rw [State.phaseEnd, running]
    rfl
  · intro run last ends
    have stands : last = inPulse c e t (e.pulses - 1) := by
      have phases : 2 * e.pulses - 2 = 2 * (e.pulses - 1) := by omega
      show (runPhase e)^[2 * e.pulses - 2] (c.startTrain e t) = _
      rw [phases, inPulse_first]
      exact inPulse_run c e t (by omega)
    have remaining : last.remaining = 1 := by
      rw [stands]
      show e.pulses - (e.pulses - 1) = 1
      omega
    have instant : last.phaseEnd = .some ends := by
      rw [stands, inPulse, Nat.sub_add_cancel some]
    have train : last.train = .high := by
      rw [stands]
      rfl
    have closing : last.closing = c.closing := by
      rw [stands]
      rfl
    have over' : run last = last.trainOver e ends := by
      show last.phaseOver e (last.phaseEnd.getD 0) = _
      rw [instant, CueLine.phaseOver, train, remaining]
      rfl
    rw [trainOver_eq, closing] at over'
    exact ⟨startTrain_eq c e t, train, remaining, instant, closing, fun open' => by rw [over', open', if_neg Bool.false_ne_true],
      fun closes => by rw [over', if_pos closes]⟩
  · intro e
    have level : s.cueLevel n = ((s.preset.t7Placed && s.lanes[n].cue.active e.force) != e.activeLow) := rfl
    rw [level]
    generalize s.lanes[n].cue = c
    cases s.preset.t7Placed with
    | false => exact Bool.false_bne _
    | true =>
      cases force : e.force with
      | normal =>
        by_cases high : c.train = .high
        · simp [CueLine.active, high]
        · simp [CueLine.active, high, beq_false_of_ne high]
      | active => simp [CueLine.active]
      | inactive => simp [CueLine.active]

end Sys2Proof.Safety
end

section
/-! PROOF. The sync pulses of a FOLLOWER, in the window of an expected pulse and outside every window (R120, R121, R123 to R125). -/

namespace Sys2Proof.Safety

open Machine

/-! ### Marked instants and windows (R120) -/

/-- The first marked instant that is at least `earliest` after a pulse. -/
theorem firstMarked_eq (e : SiteEntry) (p : Micros) (earliest : Int) :
    ∃ m j : Int, m = 640000 * j - 625 * e.inOffset ∧ earliest ≤ m ∧ m < earliest + 640000 ∧ e.firstMarked p earliest = p + BitVec.ofInt 32 m := by
  have cycle : ((Config.cycleMicros : Nat) : Int) = 640000 := by decide
  have bit : ((Config.bitMicros : Nat) : Int) = 625 := by decide
  unfold SiteEntry.firstMarked ceilDiv
  dsimp only
  rw [cycle, bit, Int.fdiv_eq_ediv_of_nonneg _ (by decide)]
  exact ⟨_, _, by rw [Int.mul_comm (e.inOffset : Int)], by omega, by omega, rfl⟩

theorem inWindow_iff (p e : Micros) : inWindow p e = true ↔ -1250 ≤ sdiff p e ∧ sdiff p e ≤ 1250 := by
  have window : ((Config.windowMicros : Nat) : Int) = 1250 := by decide
  simp [inWindow, window]

/-- In the window of the expected pulse itself the pulse is that one. -/
theorem expectedFor_own {p e : Micros} {period : Int} (early : -1250 ≤ sdiff p e) (late : sdiff p e ≤ 1250) (long : 2500 < period) :
    expectedFor p e period = some e := by
  have window : ((Config.windowMicros : Nat) : Int) = 1250 := by decide
  have whole : (sdiff p e + 1250) % period = sdiff p e + 1250 := Int.emod_eq_of_lt (by omega) (by omega)
  have first : (sdiff p e + 1250) / period = 0 := Int.ediv_eq_zero_of_lt (by omega) (by omega)
  unfold expectedFor
  dsimp only
  rw [window, whole, first, if_pos (by simp; omega)]
  simp [micros]

/-! ### A pulse in each timebase state (R121 to R124) -/

section

variable {s : State} {p : Micros}

theorem prime_eq (s : State) (p : Micros) :
    s.prime p = s.putTimebase { s.timebase with
      mode := .priming, expected := some (p + BitVec.ofNat 32 (s.tables.site.divisor * 640000)), met := false } := by
  rw [State.prime, micros_period]

theorem takePulse_awaits (mode : s.timebase.mode = .awaitSync) : s.takePulse p = s.prime p := by rw [State.takePulse, mode]

theorem takePulse_missed (mode : s.timebase.mode = .priming) (none : s.timebase.expected = none) : s.takePulse p = s.prime p := by
  rw [State.takePulse, mode, none]

theorem takePulse_priming {e : Micros} (mode : s.timebase.mode = .priming) (expected : s.timebase.expected = some e) :
    s.takePulse p =
      if inWindow p e = true then
        s.putTimebase { s.timebase with
          mode := .running, expected := some (p + BitVec.ofNat 32 (s.tables.site.divisor * 640000)), met := false, misses := 0
          earlyFor := some (s.tables.site.firstMarked p 80000) }
      else s.prime p := by
  rw [State.takePulse, mode, expected]
  dsimp only
  rw [micros_period]
  rfl

theorem takePulse_onGrid (grid : s.timebase.mode.onGrid = true) :
    s.takePulse p =
      match s.timebase.expected.bind (fun e => expectedFor p e s.tables.site.period) with
      | some e => s.putTimebase { s.timebase with mode := .running, misses := 0, expected := some e, met := true }
      | none => s.slip p := by
  unfold State.takePulse
  rcases (onGrid_iff _).1 grid with mode | mode
  · rw [mode] <;> rfl
  · rw [mode] <;> rfl

end

theorem syncPulse_watched {s : State} (role : s.tables.site.role = .follower) (still : s.timebase.stopPending = false) (p : Micros) :
    s.syncPulse p = (s.clockAt p).takePulse (s.clockAt p).clock := if_pos (watchesSync_eq (s := s.clockAt p) role still)

/-- Settles O51. -/
theorem syncPulseResults : Obligations.SyncPulseResults := by
  intro p s
  refine ⟨s.syncPulse p, rfl, ?_⟩
  intro now primed
  have prime : (s.clockAt p).prime now = primed := prime_eq _ _
  refine ⟨fun idle => ?_, fun role still => ?_⟩
  · rcases idle with role | pending | stopped
    · exact if_neg (by simp [State.watchesSync, role])
    · exact if_neg (by simp [State.watchesSync, pending])
    · have stays : (s.clockAt p).takePulse (s.clockAt p).clock = s.clockAt p := by
        have mode : (s.clockAt p).timebase.mode = .stopped := stopped
        rw [State.takePulse, mode]
      exact (congrArg (fun x => if (s.clockAt p).watchesSync = true then x else s.clockAt p) stays).trans (ite_self _)
  · rw [syncPulse_watched role still]
    refine ⟨fun mode => (takePulse_awaits (s := s.clockAt p) mode).trans prime,
      fun mode none => (takePulse_missed (s := s.clockAt p) mode none).trans prime, fun e mode expected => ?_, fun e grid expected early late some => ?_⟩
    · rw [takePulse_priming (s := s.clockAt p) mode expected]
      refine ⟨fun inside => ?_, fun outside => ?_⟩
      · obtain ⟨m, j, marked, low, high, first⟩ := firstMarked_eq s.tables.site now 80000
        refine ⟨m, j, marked, low, by omega, ?_⟩
        rw [if_pos ((inWindow_iff _ _).2 inside), ← first]
        rfl
      · rw [if_neg (mt (inWindow_iff _ _).1 outside)]
        exact prime
    · have long : 2500 < s.tables.site.period := by
        simp only [SiteEntry.period, Config.cycleMicros]
        omega
      have own : (s.clockAt p).timebase.expected.bind (fun e => expectedFor now e s.tables.site.period) = .some e := by
        show s.timebase.expected.bind _ = _
        rw [expected]
        exact expectedFor_own early late long
      rw [takePulse_onGrid (s := s.clockAt p) grid]
      show (match (s.clockAt p).timebase.expected.bind (fun e => expectedFor now e s.tables.site.period) with
        | .some e => _
        | none => _ : State) = _
      rw [own]
      rfl

/-! ### A slip (R124, R125) -/

/-- Settles O52. -/
theorem slipResult : Obligations.SlipResult := by
  intro p s role still grid outside now earliest
  have slips : s.syncPulse p = (s.clockAt p).slip now := by
    rw [syncPulse_watched role still, takePulse_onGrid (s := s.clockAt p) grid]
    show (match s.timebase.expected.bind (fun e => expectedFor now e s.tables.site.period) with
      | some e => _
      | none => _ : State) = _
    rw [outside]
  obtain ⟨u, latched⟩ := State.latch_eq (s.clockAt p) .syncSlip
  have set := State.latch_self (s.clockAt p) .syncSlip
  obtain ⟨m, j, marked, low, high, first⟩ := firstMarked_eq s.tables.site now earliest
  refine ⟨s.syncPulse p, rfl, ?_, ?_, fun n => ?_, m, j, marked, low, high, ?_⟩
  all_goals rw [slips, State.slip]
  · exact set
  · rw [latched]
    rfl
  · refine (State.mapLanes_lane _ _ n).trans ?_
    rw [latched]
    rfl
  · have frame : micros Config.frameMicros = 80000 := by decide
    rw [latched, ← first, ← micros_period, frame]
    rfl

end Sys2Proof.Safety
end
